-- ==== Sys2Proof/Word.lean ====
section
/-! DEFINITION. The words of the trunk: bytes, two-byte and four-byte fields (spec 11, R176, R177). -/

namespace Sys2Proof

/-- One byte of a cell. -/
abbrev Byte := BitVec 8

/-- A two-byte field, most significant byte first on the trunk (§0.13). -/
abbrev Half := BitVec 16

/-- A four-byte field, most significant byte first on the trunk (§0.13). -/
abbrev Word := BitVec 32

end Sys2Proof
end

