-- ==== Sys2Proof/Config.lean ====
section
/-! DEFINITION. What one part fixes: the numbers the manual states once, and the free values it leaves open. -/

namespace Sys2Proof.Config

/-- FREE VALUE (log 9): the byte phase of the boundary TRX tries first each time it enters HUNT. R132 says that TRX
tries a cell boundary and not which; the argument counts the free values drawn, so each entry into HUNT has its own. -/
opaque trialBoundary : Nat → Fin 1008

/-- The length of a cell in bytes (spec 11). -/
def cellBytes : Nat := 1008

/-- The greatest length of the write queue (R59). -/
def queueRoom : Nat := 48

/-- The greatest length of a window list (R2). -/
def listRoom : Nat := 8

/-- Where the store, survey and header-error counters saturate (R48, R129, R144). -/
def counterMax : Nat := 65535

/-- The greatest completion number (R48, R53). -/
def completionMax : Nat := 4294967295

/-- The output frame counter wraps after 4294967295 (R116). -/
def frameCounterModulus : Nat := 4294967296

/-- The broadcast target (R142). -/
def broadcastTarget : Nat := 31

/-- The columns a slot has room for (R43). -/
def slotColumns : Nat := 1920

/-- The lines a slot has room for (R43). -/
def slotLines : Nat := 1200

/-- The bound of the trim and of a correction in ACQUIRE, in ticks (R123). -/
def wideClamp : Nat := 2200

/-- The bound of a correction in TRACK and LOCKED, in ticks (R123). -/
def narrowClamp : Nat := 220

/-- The least leading blanking, in ticks (R123). -/
def blankingFloor : Nat := 1024

/-- The family code IDENT writes (R177). -/
def familyCode : Nat := 945

/-- The silicon revision IDENT writes (R177). -/
def revision : Nat := 1

end Sys2Proof.Config
end

