-- ==== Sys2Proof/Machine/Wire.lean ====
section
/-! DEFINITION. Bytes on the trunk: field order, the header check, padding of results (R176, R177). -/

namespace Sys2Proof.Machine

/-- One byte of a number. -/
def byteOf (n : Nat) : Byte := BitVec.ofNat 8 n

/-- A two-byte field, most significant byte first. -/
def halfBytes (h : Half) : List Byte := [h.extractLsb' 8 8, h.extractLsb' 0 8]

/-- A four-byte field, most significant byte first. -/
def wordBytes (w : Word) : List Byte :=
  [w.extractLsb' 24 8, w.extractLsb' 16 8, w.extractLsb' 8 8, w.extractLsb' 0 8]

/-- A number as a two-byte field. -/
def natHalf (n : Nat) : List Byte := halfBytes (BitVec.ofNat 16 n)

/-- A number as a four-byte field. -/
def natWord (n : Nat) : List Byte := wordBytes (BitVec.ofNat 32 n)

/-- A signed number as a two-byte field in two's complement (spec 11). -/
def intHalf (n : Int) : List Byte := halfBytes (BitVec.ofInt 16 n)

/-- A signed number as a four-byte field in two's complement (spec 11). -/
def intWord (n : Int) : List Byte := wordBytes (BitVec.ofInt 32 n)

/-- Byte `i` of a byte string; the bytes past its end read as 0. -/
def byteAt (bytes : List Byte) (i : Nat) : Byte := bytes.getD i 0#8

/-- The two-byte field that begins at byte `i`. -/
def halfAt (bytes : List Byte) (i : Nat) : Half := byteAt bytes i ++ byteAt bytes (i + 1)

/-- The four-byte field that begins at byte `i`. -/
def wordAt (bytes : List Byte) (i : Nat) : Word := halfAt bytes i ++ halfAt bytes (i + 2)

/-- A byte string followed by zero bytes up to `n` bytes (R177). -/
def padTo (n : Nat) (bytes : List Byte) : List Byte := bytes ++ List.replicate (n - bytes.length) 0#8

/-- One bit entering the header check (R176): the register shifts left, and takes the polynomial 4129 when the bit shifted
out differs from the incoming bit. -/
def crcBit (r : Half) (bit : Bool) : Half :=
  if (r.msb != bit) = true then (r <<< 1) ^^^ 4129#16 else r <<< 1

/-- One byte entering the header check, most significant bit first (R176). -/
def crcByte (r : Half) (b : Byte) : Half :=
  [7, 6, 5, 4, 3, 2, 1, 0].foldl (fun r i => crcBit r (b.getLsbD i)) r

/-- The header check of a header region (R130, R176): the register starts at all ones. -/
def headerCheck (header : List Byte) : Half := header.foldl crcByte 65535#16

/-- A header is good when its check matches the one the cell carries (R130). -/
def goodHeader (header : List Byte) (check : Half) : Bool := headerCheck header == check

/-- The cell made of a header region, its check and a payload (R176). -/
def cellOf (header payload : List Byte) : List Byte := header ++ halfBytes (headerCheck header) ++ payload

end Sys2Proof.Machine
end

