-- ==== Sys2Proof/Syntax.lean ====
section
/-! DEFINITION. The commands of the block: one constructor of `Instr` per row of spec/opcode_table.json. The operands of a
cell are its fields at their wire widths (spec 11, §11.2 and §11.4), unchecked: the meanings check them, as R161 says. -/

namespace Sys2Proof

/-- What every REQ cell carries besides its request code and parameters (§11.2). -/
structure ReqHead where
  target : Byte
  tag : Byte
deriving DecidableEq, Repr

/-- The 34 bytes of a window record as WINSET carries them (§11.5). -/
structure RawWindow where
  number : Byte
  kind : Byte
  value : Word
  x0 : Half
  y0 : Half
  width : Half
  height : Half
  presence : Byte
  cx0 : Half
  cy0 : Half
  cw : Half
  ch : Half
  opacity : Half
  borderWidth : Byte
  borderColour : Word
  fallback : Word
deriving DecidableEq, Repr

/-- The fields of a CUESET after the entry number (§11.4). -/
structure RawCue where
  presence : Byte
  weekday : Byte
  hour : Byte
  minute : Byte
  second : Byte
  frame : Byte
  mode : Byte
  action : Byte
  argument : Byte
  mask : Byte
deriving DecidableEq, Repr

/-- The parts of the work of one output frame end, block by block (R115). -/
inductive FrameEndPart where
  | silence      -- STM counts silence (R66)
  | selection    -- STM moves the selections (R62)
  | swap         -- LYU swaps the armed banks (R14)
  | transitions  -- TXU advances running transitions (R78)
  | lists        -- ROU counts dwell and applies staged lists (R106, R107)
  | freezes      -- FZU takes armed freezes (R92)
  | survey       -- SVU counts down (R146)
  | count        -- RGU counts the frame (R116)
  | raster       -- RGU applies a staged raster (R119)
  | genlock      -- RGU corrects and counts (R123, R124)
deriving DecidableEq, Repr

/-- The commands. A FREEZE request is two rows of the table: `freezeAt` stands for the kind AT and `freezeNow` for every
other kind byte, NOW (0) and the bytes that name no kind (log 13). -/
inductive Instr where
  -- requests (§11.4)
  | ident (q : ReqHead)
  | status (q : ReqHead) (page : Byte)
  | clear (q : ReqHead) (mask : Half)
  | raster (q : ReqHead) (activeWidth activeHeight totalWidth totalHeight : Half) (background : Word)
  | outmode (q : ReqHead) (mask mode : Byte)
  | silence (q : ReqHead) (hold : Byte) (loss : Half)
  | subscribe (q : ReqHead) (store source : Byte)
  | release (q : ReqHead) (store : Byte)
  | winset (q : ReqHead) (output : Byte) (record : RawWindow)
  | windrop (q : ReqHead) (output window : Byte)
  | winmove (q : ReqHead) (output window position : Byte)
  | winread (q : ReqHead) (output window bank : Byte)
  | discard (q : ReqHead) (output : Byte)
  | commit (q : ReqHead) (mask : Byte)
  | presave (q : ReqHead) (output preset : Byte)
  | recall (q : ReqHead) (mask preset : Byte)
  | take (q : ReqHead) (output window kind : Byte) (value : Word) (style duration : Byte)
  | freezeNow (q : ReqHead) (output window kind : Byte)
  | freezeAt (q : ReqHead) (output window tag : Byte)
  | thaw (q : ReqHead) (output window : Byte)
  | rotset (q : ReqHead) (list count : Byte) (entries : List Byte) (dwell : Half) (style duration : Byte)
  | cueset (q : ReqHead) (entry : Byte) (cue : RawCue)
  | cuedrop (q : ReqHead) (entry : Byte)
  | genlock (q : ReqHead) (source : Byte)
  | survey (q : ReqHead) (frames : Byte)
  | surveyread (q : ReqHead) (source : Byte)
  | restart (q : ReqHead)
  | unknownRequest (q : ReqHead) (code : Byte)
  -- the other cells (§11.2); `tick` is the raster tick at which a FRAME-OPEN arrives (R121, log 7)
  | frameOpen (source tag : Byte) (width height cells : Half) (tick : Nat)
  | pic (source tag : Byte) (sequence line first : Half) (count : Byte) (pixels : List Word)
  | frameClose (source tag : Byte) (cells : Half)
  | timebase (weekday hour minute second frame : Byte)
  | enumCell (next : Byte)
  | forwardCell (kind : Byte)
  -- the trunk input
  | headerError
  | huntHeaderCheck (header : List Byte) (check : Half)
  | syncReached
  | linkHunt
  | lossOfSignal
  | signalReceived
  | breakStart
  | breakEnd
  | chainBreak
  -- power
  | powerOn
  | powerOnFillEnd
  -- the raster; `order` is the order in which the blocks take the output frame end (R115, log 6)
  | outputFrameEnd (order : List FrameEndPart)
  | outputFrameStart
  -- grants of frame memory to the write queue
  | picWrite
  | completion
  -- one object's part of an output frame end, as a step of its own (log 5)
  | listAdvance (list : Fin 4)
  | transitionEnd (output : Fin 4) (window : Fin 8)
  | sourceStale (store : Fin 8)
  | sourceLost (store : Fin 8)
  | surveyDone
  | genlockTrack
  | genlockLocked
  | genlockUnlocked
deriving DecidableEq, Repr

end Sys2Proof
end

