-- ==== Sys2Proof/WellFormed.lean ====
section
/-! DEFINITION. Which terms of `Instr` stand for a command that can reach the part. `exec` has a meaning for the other terms
too (log 14); no cell and no event of the spec spells them. -/

namespace Sys2Proof

/-- A cell kind that no block of the part acts on: FILL (0), RSP (7) and the unknown kinds (R130, R137, §11.2). -/
def unusedKind (kind : Byte) : Bool := kind.toNat = 0 || 7 ≤ kind.toNat

/-- A request code that names no request of the part (R177): 0 and 27..255. -/
def unknownCode (code : Byte) : Bool := code.toNat = 0 || 27 ≤ code.toNat

/-- The command can reach the part. -/
def Instr.wellFormed : Instr → Bool
  -- a FREEZE of kind AT is the row FREEZE_AT (§11.3: NOW 0, AT 1)
  | .freezeNow _ _ _ kind => kind.toNat ≠ 1
  -- the parameter block has room for eight entries, whatever the count says (§11.4)
  | .rotset _ _ _ entries _ _ _ => entries.length = 8
  | .unknownRequest _ code => unknownCode code
  -- the payload is 960 bytes, 240 groups of four (R176)
  | .pic _ _ _ _ _ _ pixels => pixels.length = 240
  | .forwardCell kind => unusedKind kind
  -- the header region is 46 bytes (R176)
  | .huntHeaderCheck header _ => header.length = 46
  -- each block takes an output frame end once (R115)
  | .outputFrameEnd order => order.Nodup
  | _ => true

end Sys2Proof
end

