-- ==== Sys2Proof/Decode.lean ====
section
/-! DEFINITION. Reading commands: `decodeTableWord` for the words of spec/opcode_table.json (none of its rows gives bits), and
`decodeCell`, which reads a whole 1008-byte cell by Chapter 11. -/

namespace Sys2Proof

open Sys2Proof.Machine

/-- The command a word of the opcode table spells. No row of the table gives bits ("fields" is empty in all 57), so no word
spells one. -/
def decodeTableWord (_nbits _w : Nat) : Option Instr := none

/-- The window record that begins at byte `i` of the parameter field (§11.5). -/
def rawWindowAt (p : List Byte) (i : Nat) : RawWindow where
  number := byteAt p i
  kind := byteAt p (i + 1)
  value := wordAt p (i + 2)
  x0 := halfAt p (i + 6)
  y0 := halfAt p (i + 8)
  width := halfAt p (i + 10)
  height := halfAt p (i + 12)
  presence := byteAt p (i + 14)
  cx0 := halfAt p (i + 15)
  cy0 := halfAt p (i + 17)
  cw := halfAt p (i + 19)
  ch := halfAt p (i + 21)
  opacity := halfAt p (i + 23)
  borderWidth := byteAt p (i + 25)
  borderColour := wordAt p (i + 26)
  fallback := wordAt p (i + 30)

/-- The cue fields of a CUESET parameter field (§11.4). -/
def rawCueAt (p : List Byte) : RawCue where
  presence := byteAt p 1
  weekday := byteAt p 2
  hour := byteAt p 3
  minute := byteAt p 4
  second := byteAt p 5
  frame := byteAt p 6
  mode := byteAt p 7
  action := byteAt p 8
  argument := byteAt p 9
  mask := byteAt p 10

/-- The request that a request code and a 40-byte parameter field spell (§11.4). -/
def decodeRequest (q : ReqHead) (code : Byte) (p : List Byte) : Instr :=
  match code.toNat with
  | 1 => .ident q
  | 2 => .status q (byteAt p 0)
  | 3 => .clear q (halfAt p 0)
  | 4 => .raster q (halfAt p 0) (halfAt p 2) (halfAt p 4) (halfAt p 6) (wordAt p 8)
  | 5 => .outmode q (byteAt p 0) (byteAt p 1)
  | 6 => .silence q (byteAt p 0) (halfAt p 1)
  | 7 => .subscribe q (byteAt p 0) (byteAt p 1)
  | 8 => .release q (byteAt p 0)
  | 9 => .winset q (byteAt p 0) (rawWindowAt p 1)
  | 10 => .windrop q (byteAt p 0) (byteAt p 1)
  | 11 => .winmove q (byteAt p 0) (byteAt p 1) (byteAt p 2)
  | 12 => .winread q (byteAt p 0) (byteAt p 1) (byteAt p 2)
  | 13 => .discard q (byteAt p 0)
  | 14 => .commit q (byteAt p 0)
  | 15 => .presave q (byteAt p 0) (byteAt p 1)
  | 16 => .recall q (byteAt p 0) (byteAt p 1)
  | 17 => .take q (byteAt p 0) (byteAt p 1) (byteAt p 2) (wordAt p 3) (byteAt p 7) (byteAt p 8)
  | 18 =>
    if (byteAt p 2).toNat = 1 then .freezeAt q (byteAt p 0) (byteAt p 1) (byteAt p 3)
    else .freezeNow q (byteAt p 0) (byteAt p 1) (byteAt p 2)
  | 19 => .thaw q (byteAt p 0) (byteAt p 1)
  | 20 =>
    .rotset q (byteAt p 0) (byteAt p 1) ((List.range 8).map (fun i => byteAt p (2 + i))) (halfAt p 10)
      (byteAt p 12) (byteAt p 13)
  | 21 => .cueset q (byteAt p 0) (rawCueAt p)
  | 22 => .cuedrop q (byteAt p 0)
  | 23 => .genlock q (byteAt p 0)
  | 24 => .survey q (byteAt p 0)
  | 25 => .surveyread q (byteAt p 0)
  | 26 => .restart q
  | _ => .unknownRequest q code

/-- The command that a header region with a good check and a payload spell (§11.2). `tick` is the raster tick at which the
cell arrives, which no byte of the cell carries (log 7). -/
def decodeHeader (tick : Nat) (h payload : List Byte) : Instr :=
  match (byteAt h 0).toNat with
  | 1 => .frameOpen (byteAt h 1) (byteAt h 2) (halfAt h 3) (halfAt h 5) (halfAt h 7) tick
  | 2 =>
    .pic (byteAt h 1) (byteAt h 2) (halfAt h 3) (halfAt h 5) (halfAt h 7) (byteAt h 9)
      ((List.range 240).map (fun k => wordAt payload (4 * k)))
  | 3 => .frameClose (byteAt h 1) (byteAt h 2) (halfAt h 3)
  | 4 => .timebase (byteAt h 1) (byteAt h 2) (byteAt h 3) (byteAt h 4) (byteAt h 5)
  | 5 => .enumCell (byteAt h 1)
  | 6 => decodeRequest ⟨byteAt h 1, byteAt h 2⟩ (byteAt h 3) ((h.drop 4).take 40)
  | _ => .forwardCell (byteAt h 0)

/-- The command that a received cell is to a receiver in SYNC (R133, R134): none for a string that is not 1008 bytes. -/
def decodeCell (tick : Nat) (cell : List Byte) : Option Instr :=
  if cell.length = Config.cellBytes then
    if goodHeader (cell.take 46) (halfAt cell 46) then some (decodeHeader tick (cell.take 46) (cell.drop 48))
    else some .headerError
  else none

end Sys2Proof
end

