-- ==== Sys2Proof/Machine/State.lean ====
section
/-! DEFINITION. The state of the part, block by block (§0.4), as plain data, and its value right after power-on. -/

namespace Sys2Proof.Machine

/-! ### Values -/

/-- A colour, and a pixel: three components of 0..1023 (§0.10). -/
structure Colour where
  y : BitVec 10
  cb : BitVec 10
  cr : BitVec 10
deriving DecidableEq, Repr

/-- Black (§0.10). -/
def Colour.black : Colour := ⟨64#10, 512#10, 512#10⟩

/-- What a window record says the window shows (R1). -/
inductive Content where
  | source (s : Fin 16)
  | list (r : Fin 4)
  | colour (c : Colour)
deriving DecidableEq, Repr

/-- A content that a transition leaves or goes to (R73): never a list. -/
inductive Shown where
  | source (s : Fin 16)
  | colour (c : Colour)
deriving DecidableEq, Repr

/-- The styles of a transition (§0.7). -/
inductive Style where
  | cut | dissolve | fade
deriving DecidableEq, Repr

/-- An output is DARK or SHOWING (R19). -/
inductive OutputMode where
  | dark | showing
deriving DecidableEq, Repr

/-- The two banks of an output (R3). -/
inductive Bank where
  | active | pending
deriving DecidableEq, Repr

/-! ### TRX, FWD -/

/-- The link state (R129). -/
inductive LinkState where
  | down | hunt | sync
deriving DecidableEq, Repr

/-- A break being received (R135, R136). -/
structure Break where
  /-- TRX was in SYNC when the break began. -/
  fromSync : Bool
  /-- The break has reached 10 µs. -/
  long : Bool
deriving DecidableEq, Repr

/-- The trunk receiver (R129), with the boundary it tries and the break it receives. -/
structure Trx where
  link : LinkState
  goodRun : Nat
  consecErrors : Nat
  headerErrors : Nat
  boundary : Fin 1008
  brk : Option Break
deriving DecidableEq, Repr

/-- The reply codes, in the order of the table in 10.2 (R177). -/
inductive ReplyCode where
  | done | armed | busy | staged | range | absent | duplicate | full | pinned | shared | frozen | notLive | unknown
deriving DecidableEq, Repr

/-- An RSP cell (R162). -/
structure Reply where
  target : Byte
  tag : Byte
  request : Byte
  code : ReplyCode
  attention : Bool
  /-- The 40 bytes of the result field. -/
  result : List Byte
deriving DecidableEq, Repr

/-- What FWD sends downstream in a cell position (R137, R138). -/
inductive Sent where
  /-- The cell received, as it was received, header check included. -/
  | unchanged
  /-- The reply written in place of a request. -/
  | reply (r : Reply)
  /-- The ENUM received, with this next address and a new header check. -/
  | enumNext (next : Byte)
  /-- A FILL cell. -/
  | fill
  /-- Break symbols, one for each received, and no cell. -/
  | breakSymbols
deriving DecidableEq, Repr

/-- The forwarding path: the cell in transit (§0.4). -/
structure Fwd where
  sent : Sent
  /-- The cell partly sent before was cut short (R131, R135). -/
  cutShort : Bool
deriving DecidableEq, Repr

/-! ### STM, WRQ -/

/-- The source states of a store (R65). -/
inductive SourceState where
  | unbound | waiting | live | stale | lost
deriving DecidableEq, Repr

/-- Where a slot that holds a frame stands (R52); the completion number is present in COMPLETE. -/
inductive SlotPhase where
  | filling
  | closing
  | complete (number : Nat)
  | damaged
deriving DecidableEq, Repr

/-- The fields of a slot record that are present in every state except EMPTY (R52). -/
structure FrameInfo where
  phase : SlotPhase
  tag : Byte
  width : Nat
  height : Nat
  cells : Nat
  next : Nat
deriving DecidableEq, Repr

/-- A slot record (R52); a slot with no frame is EMPTY. -/
structure SlotRecord where
  frame : Option FrameInfo
  selected : Bool
  pins : Nat
deriving DecidableEq, Repr

/-- One entry of the subscription table (R48). -/
structure Store where
  binding : Option (Fin 16)
  state : SourceState
  silence : Nat
  slots : Vector SlotRecord 3
  completions : Nat
  dropping : Bool
  completed : Nat
  dropped : Nat
  damaged : Nat
  stray : Nat
deriving DecidableEq, Repr

/-- The hold and loss limits of the part, in output frames (R48). -/
structure Limits where
  hold : Nat
  loss : Nat
deriving DecidableEq, Repr

/-- An entry of the write queue (R57, R58, R59). -/
inductive QueueEntry where
  | pic (store : Fin 8) (slot : Fin 3) (line first : Nat) (pixels : List Colour)
  | close (store : Fin 8) (slot : Fin 3)
deriving DecidableEq, Repr

/-! ### RGU -/

/-- A raster (R113). -/
structure Raster where
  activeWidth : Nat
  activeHeight : Nat
  totalWidth : Nat
  totalHeight : Nat
  background : Colour
deriving DecidableEq, Repr

/-- Where the raster stands: in the power-on fill, in a frame, or between an output frame end and the output frame start
that follows it (R115, R117). -/
inductive Scan where
  | fill | running | between
deriving DecidableEq, Repr

/-- The genlock states (R113). -/
inductive GenlockState where
  | free | acquire | track | locked
deriving DecidableEq, Repr

/-- The raster and genlock unit (R113). -/
structure Rgu where
  raster : Raster
  staged : Option Raster
  scan : Scan
  /-- L of the current frame. -/
  length : Nat
  /-- c of the current frame. -/
  corr : Int
  /-- The tick position reached in the current frame. -/
  tick : Nat
  counter : Nat
  genlock : GenlockState
  reference : Option (Fin 16)
  /-- T. -/
  trim : Int
  /-- c for the next frame (R120, R123, R125). -/
  nextCorr : Int
  capture : Option Int
  lastE : Option Int
  goodCount : Nat
  badCount : Nat
deriving DecidableEq, Repr

/-! ### LYU -/

/-- A crop rectangle of a source frame (R1). -/
structure Crop where
  cx0 : Nat
  cy0 : Nat
  cw : Nat
  ch : Nat
deriving DecidableEq, Repr

/-- A border: its colour is present exactly when its width is (R1). -/
structure Border where
  width : Nat
  colour : Colour
deriving DecidableEq, Repr

/-- A window record (R1). -/
structure WindowRecord where
  number : Fin 8
  content : Content
  x0 : Int
  y0 : Int
  width : Nat
  height : Nat
  crop : Option Crop
  opacity : Nat
  border : Option Border
  fallback : Option Colour
deriving DecidableEq, Repr

/-- The layout state of one output (R3); lists stand bottom first. -/
structure Output where
  active : List WindowRecord
  pending : List WindowRecord
  armed : Bool
  dirty : Bool
  presets : Vector (Option (List WindowRecord)) 8
  mode : OutputMode
deriving DecidableEq, Repr

/-! ### TXU, FZU -/

/-- What started a transition (R73). -/
inductive Origin where
  | take
  | list (r : Fin 4)
deriving DecidableEq, Repr

/-- A running transition (R73). -/
structure Transition where
  fromContent : Shown
  toContent : Shown
  style : Style
  duration : Nat
  position : Nat
  origin : Origin
deriving DecidableEq, Repr

/-- A transition record (R73). -/
inductive TransitionRecord where
  | idle
  | running (t : Transition)
deriving DecidableEq, Repr

/-- A freeze record (R88). -/
inductive FreezeRecord where
  | none
  | armed (tag : Byte) (store : Fin 8)
  | frozen (store : Fin 8) (slot : Fin 3) (shared : Bool)
deriving DecidableEq, Repr

/-! ### ROU -/

/-- A staged ROTSET (R105). -/
structure StagedList where
  entries : List (Fin 16)
  dwell : Nat
  style : Style
  duration : Nat
deriving DecidableEq, Repr

/-- A rotation list (R102). -/
structure RotationList where
  entries : List (Fin 16)
  dwell : Nat
  style : Style
  duration : Nat
  position : Nat
  counter : Nat
  staged : Option StagedList
deriving DecidableEq, Repr

/-! ### CUE -/

/-- A house clock that is set (R149). -/
structure Clock where
  weekday : Nat
  hour : Nat
  minute : Nat
  second : Nat
  frame : Nat
deriving DecidableEq, Repr

/-- ONCE or REPEAT (R151). -/
inductive CueMode where
  | once | repeating
deriving DecidableEq, Repr

/-- The action of a cue (R151). -/
inductive CueAction where
  | recall (preset : Fin 8) (mask : BitVec 4)
  | mode (m : OutputMode) (mask : BitVec 4)
deriving DecidableEq, Repr

/-- A cue entry in use (R151). -/
structure Cue where
  weekday : Option Nat
  hour : Option Nat
  minute : Option Nat
  second : Option Nat
  frame : Option Nat
  mode : CueMode
  action : CueAction
  matching : Bool
deriving DecidableEq, Repr

/-! ### CMP -/

/-- A side of a plan entry (R24). -/
inductive Side where
  | slot (store : Fin 8) (slot : Fin 3) (width height : Nat)
  | colour (c : Colour)
deriving DecidableEq, Repr

/-- The drawing of a plan entry (R24). -/
inductive Drawing where
  | single (side : Side)
  | mixed (fromSide toSide : Side) (style : Style) (duration position : Nat)
deriving DecidableEq, Repr

/-- A plan entry (R24). -/
structure PlanEntry where
  number : Fin 8
  x0 : Int
  y0 : Int
  width : Nat
  height : Nat
  crop : Option Crop
  opacity : Nat
  borderWidth : Nat
  /-- As in the record; not used when the border width is 0. -/
  borderColour : Option Colour
  fallback : Colour
  drawing : Drawing
deriving DecidableEq, Repr

/-- A frame plan (R24). -/
structure FramePlan where
  mode : OutputMode
  activeWidth : Nat
  activeHeight : Nat
  background : Colour
  entries : List PlanEntry
deriving DecidableEq, Repr

/-! ### FMC -/

/-- A scan-out fetch that waits (R45): for the samples of the pixel that its output sends at the tick at which the fetch was raised.
A run of one pixel, raised at its own tick, is the model's choice (log 28). -/
structure Fetch where
  output : Fin 4
  /-- The tick at which it was raised: a lesser one has waited longer. -/
  raised : Nat
deriving DecidableEq, Repr

/-- An access that FMC grants (R45). -/
inductive Grant where
  /-- A scan-out fetch. -/
  | fetch (f : Fetch)
  /-- The head entry of the write queue. -/
  | queueHead
deriving DecidableEq, Repr

/-- The frame memory controller (R45): the scan-out fetches that wait, and the grant in progress. -/
structure Fmc where
  fetches : List Fetch
  grant : Option Grant
deriving DecidableEq, Repr

/-! ### SVU, CND -/

/-- The survey states (R144). -/
inductive SurveyState where
  | idle | running | done
deriving DecidableEq, Repr

/-- What the last FRAME-OPEN seen carried (R144). -/
structure SeenFrame where
  width : Nat
  height : Nat
  tag : Byte
deriving DecidableEq, Repr

/-- A survey record (R144). -/
structure SurveyRecord where
  pics : Nat
  opens : Nat
  last : Option SeenFrame
deriving DecidableEq, Repr

/-- The survey unit (R144). -/
structure Survey where
  state : SurveyState
  framesLeft : Nat
  records : Vector SurveyRecord 16
deriving DecidableEq, Repr

/-- The twelve sticky conditions, in the order of R177. -/
inductive Condition where
  | linkError | linkResync | chainBreak | queueOverflow | frameDamaged | frameDropped | sourceStale | sourceLost
  | lockChange | referenceLost | cueFired | editOverridden
deriving DecidableEq, Repr

/-- The last reset cause (R169). -/
inductive ResetCause where
  | powerOn | restart
deriving DecidableEq, Repr

/-! ### The part -/

/-- MODEL'S OWN (log 5): a part of the coming output frame end that has been taken already, by a command of its own or by a
start that an output frame end must not advance (R78). -/
inductive FrameEndMark where
  | silence (store : Fin 8)
  | transition (output : Fin 4) (window : Fin 8)
  | list (r : Fin 4)
  | survey
  | genlock
deriving DecidableEq, Repr

/-- The state of the part. -/
structure State where
  trx : Trx
  fwd : Fwd
  /-- CAU: the chain address, or unassigned (R139). -/
  address : Option Byte
  stores : Vector Store 8
  limits : Limits
  /-- WRQ, head first (R59). -/
  queue : List QueueEntry
  /-- FMC: frame memory, one pixel for each listed position; see Machine/Memory.lean (R43). -/
  memory : List (Nat × Colour)
  /-- FMC: the fetches that wait and the grant in progress (R45). -/
  fmc : Fmc
  rgu : Rgu
  outputs : Vector Output 4
  transitions : Vector (Vector TransitionRecord 8) 4
  /-- TXU's former contents: none held, or the content held, or the mark that the record was absent (R73). -/
  former : Vector (Vector (Option (Option Content)) 8) 4
  freezes : Vector (Vector FreezeRecord 8) 4
  lists : Vector RotationList 4
  clock : Option Clock
  cues : Vector (Option Cue) 16
  plans : Vector (Option FramePlan) 4
  /-- MODEL'S OWN (log 28): CMP's pixel of the present tick for each output whose fetch for it has been granted (R45). -/
  samples : Vector (Option Colour) 4
  survey : Survey
  /-- CND: bit n is the n-th condition of R177. -/
  conditions : BitVec 12
  lastReset : ResetCause
  /-- MODEL'S OWN (log 5). -/
  early : List FrameEndMark
  /-- MODEL'S OWN (log 9): how many free values have been drawn. -/
  freeCount : Nat
  /-- The commands that are waiting, first in, first out (log 1, 2). -/
  pending : List Instr
deriving DecidableEq, Repr

/-- No command of the manual stops the block, so no fault has a name. -/
inductive Fault where
deriving DecidableEq, Repr

/-- Why a command has no meaning. No arm of `exec` answers it now. -/
inductive Refusal where
  /-- Raised by an arm of `exec` for a command that the model does not give a meaning yet. Safe: the run stops. -/
  | notModelled (mnemonic : String)
deriving DecidableEq, Repr

/-- FMC with no fetch waiting and no grant in progress, as power-on and RESTART leave it (R45). -/
def Fmc.reset : Fmc := ⟨[], none⟩

/-- An EMPTY slot that is neither selected nor pinned (R48). -/
def SlotRecord.reset : SlotRecord := ⟨none, false, 0⟩

/-- A store after power-on (R48). -/
def Store.reset : Store where
  binding := none
  state := .unbound
  silence := 0
  slots := Vector.replicate 3 SlotRecord.reset
  completions := 0
  dropping := false
  completed := 0
  dropped := 0
  damaged := 0
  stray := 0

/-- The power-on raster (R113). -/
def Raster.reset : Raster := ⟨1920, 1080, 2200, 1125, Colour.black⟩

/-- RGU after power-on (R113, R117). -/
def Rgu.reset : Rgu where
  raster := Raster.reset
  staged := none
  scan := .fill
  length := 2475000
  corr := 0
  tick := 0
  counter := 0
  genlock := .free
  reference := none
  trim := 0
  nextCorr := 0
  capture := none
  lastE := none
  goodCount := 0
  badCount := 0

/-- The layout state of an output after power-on (R3). -/
def Output.reset : Output where
  active := []
  pending := []
  armed := false
  dirty := false
  presets := Vector.replicate 8 none
  mode := .dark

/-- A rotation list after power-on (R102). -/
def RotationList.reset : RotationList := ⟨[], 1, .cut, 0, 0, 0, none⟩

/-- A cleared survey record (R144). -/
def SurveyRecord.cleared : SurveyRecord := ⟨0, 0, none⟩

/-- The survey unit after every kind of reset (R144). -/
def Survey.reset : Survey := ⟨.idle, 0, Vector.replicate 16 SurveyRecord.cleared⟩

/-- The part right after power-on (R175), its queue of commands empty. -/
def State.reset : State where
  trx := ⟨.down, 0, 0, 0, 0, none⟩
  fwd := ⟨.fill, false⟩
  address := none
  stores := Vector.replicate 8 Store.reset
  limits := ⟨12, 120⟩
  queue := []
  memory := []
  fmc := Fmc.reset
  rgu := Rgu.reset
  outputs := Vector.replicate 4 Output.reset
  transitions := Vector.replicate 4 (Vector.replicate 8 .idle)
  former := Vector.replicate 4 (Vector.replicate 8 none)
  freezes := Vector.replicate 4 (Vector.replicate 8 .none)
  lists := Vector.replicate 4 RotationList.reset
  clock := none
  cues := Vector.replicate 16 none
  plans := Vector.replicate 4 none
  samples := Vector.replicate 4 none
  survey := Survey.reset
  conditions := 0#12
  lastReset := .powerOn
  early := []
  freeCount := 0
  pending := []

end Sys2Proof.Machine
end

