-- ==== Sys2Proof/Machine/Table.lean ====
section
/-! DEFINITION. Tables of fixed size: reading, writing and mapping them, and the updates of `State` that write one entry. -/

namespace Sys2Proof.Machine

variable {α β : Type} {n m : Nat}

/-- The entry of a table at an index. -/
def tget (v : Vector α n) (i : Fin n) : α := v[i]

/-- The table with one entry written. -/
def tset (v : Vector α n) (i : Fin n) (x : α) : Vector α n := v.set i x

/-- The table of `f i x` for each entry `x` at `i`. -/
def tmap (f : Fin n → α → β) (v : Vector α n) : Vector β n := Vector.ofFn (fun i => f i (tget v i))

/-- The entry of a table of tables, such as one per output and window number. -/
def gget (v : Vector (Vector α m) n) (i : Fin n) (j : Fin m) : α := tget (tget v i) j

/-- The table of tables with one entry written. -/
def gset (v : Vector (Vector α m) n) (i : Fin n) (j : Fin m) (x : α) : Vector (Vector α m) n :=
  tset v i (tset (tget v i) j x)

/-- The table of tables of `f i j x` for each entry `x` at `i`, `j`. -/
def gmap (f : Fin n → Fin m → α → β) (v : Vector (Vector α m) n) : Vector (Vector β m) n :=
  tmap (fun i row => tmap (f i) row) v

/-- Store `i` (R48). -/
def State.store (s : State) (i : Fin 8) : Store := tget s.stores i

/-- The state with store `i` written. -/
def State.setStore (s : State) (i : Fin 8) (x : Store) : State := { s with stores := tset s.stores i x }

/-- Slot record `k` of a store (R52). -/
def Store.slot (st : Store) (k : Fin 3) : SlotRecord := tget st.slots k

/-- The store with slot record `k` written. -/
def Store.setSlot (st : Store) (k : Fin 3) (x : SlotRecord) : Store := { st with slots := tset st.slots k x }

/-- The layout state of output `o` (R3). -/
def State.output (s : State) (o : Fin 4) : Output := tget s.outputs o

/-- The state with the layout state of output `o` written. -/
def State.setOutput (s : State) (o : Fin 4) (x : Output) : State := { s with outputs := tset s.outputs o x }

/-- Preset `n` of an output (R3). -/
def Output.preset (out : Output) (n : Fin 8) : Option (List WindowRecord) := tget out.presets n

/-- The transition record of window `w` of output `o` (R73). -/
def State.transition (s : State) (o : Fin 4) (w : Fin 8) : TransitionRecord := gget s.transitions o w

/-- The state with the transition record of window `w` of output `o` written. -/
def State.setTransition (s : State) (o : Fin 4) (w : Fin 8) (x : TransitionRecord) : State :=
  { s with transitions := gset s.transitions o w x }

/-- The former content TXU holds for window `w` of output `o` (R73). -/
def State.formerOf (s : State) (o : Fin 4) (w : Fin 8) : Option (Option Content) := gget s.former o w

/-- The state with the former content of window `w` of output `o` written. -/
def State.setFormer (s : State) (o : Fin 4) (w : Fin 8) (x : Option (Option Content)) : State :=
  { s with former := gset s.former o w x }

/-- The freeze record of window `w` of output `o` (R88). -/
def State.freeze (s : State) (o : Fin 4) (w : Fin 8) : FreezeRecord := gget s.freezes o w

/-- The state with the freeze record of window `w` of output `o` written. -/
def State.setFreeze (s : State) (o : Fin 4) (w : Fin 8) (x : FreezeRecord) : State :=
  { s with freezes := gset s.freezes o w x }

/-- Rotation list `r` (R102). -/
def State.list (s : State) (r : Fin 4) : RotationList := tget s.lists r

/-- The state with rotation list `r` written. -/
def State.setList (s : State) (r : Fin 4) (x : RotationList) : State := { s with lists := tset s.lists r x }

/-- Cue entry `c`; none is an empty entry (R149). -/
def State.cue (s : State) (c : Fin 16) : Option Cue := tget s.cues c

/-- The state with cue entry `c` written. -/
def State.setCue (s : State) (c : Fin 16) (x : Option Cue) : State := { s with cues := tset s.cues c x }

/-- The state with RGU written. -/
def State.setRgu (s : State) (x : Rgu) : State := { s with rgu := x }

/-- The state with TRX written. -/
def State.setTrx (s : State) (x : Trx) : State := { s with trx := x }

/-- The state with what goes downstream written; the cell in transit is whole. -/
def State.send (s : State) (x : Sent) : State := { s with fwd := ⟨x, false⟩ }

/-- The state with a part of the coming output frame end marked as taken (log 5). -/
def State.mark (s : State) (x : FrameEndMark) : State := { s with early := x :: s.early }

/-- A part of the coming output frame end has been taken already. -/
def State.marked (s : State) (x : FrameEndMark) : Bool := decide (x ∈ s.early)

end Sys2Proof.Machine
end

