-- ==== Sys2Proof/Machine/Flags.lean ====
section
/-! DEFINITION. The flags of the part: the twelve sticky conditions, the attention indicator and saturating counters
(R165, R166, R177, §0.11). -/

namespace Sys2Proof.Machine

/-- The bit that stands for a condition in a condition mask (R177). -/
def Condition.bit : Condition → Nat
  | .linkError => 0
  | .linkResync => 1
  | .chainBreak => 2
  | .queueOverflow => 3
  | .frameDamaged => 4
  | .frameDropped => 5
  | .sourceStale => 6
  | .sourceLost => 7
  | .lockChange => 8
  | .referenceLost => 9
  | .cueFired => 10
  | .editOverridden => 11

/-- The condition mask that names one condition. -/
def Condition.mask (c : Condition) : BitVec 12 := BitVec.twoPow 12 c.bit

/-- A condition is set. -/
def State.has (s : State) (c : Condition) : Bool := s.conditions.getLsbD c.bit

/-- A block sets a condition; one that is set stays set (R166). -/
def State.raise (s : State) (c : Condition) : State := { s with conditions := s.conditions ||| c.mask }

/-- A block sets a condition if its event has come about. -/
def State.raiseIf (s : State) (b : Bool) (c : Condition) : State := if b then s.raise c else s

/-- The conditions after a CLEAR that names those of the mask (R167). -/
def clearedBy (conditions mask : BitVec 12) : BitVec 12 := conditions &&& ~~~mask

/-- The attention indicator: whether any condition is set (R165). -/
def State.attention (s : State) : Bool := s.conditions != 0#12

/-- One more on a counter that saturates at 65535 (§0.11). -/
def satInc (n : Nat) : Nat := min (n + 1) Config.counterMax

/-- One more on the output frame counter, which wraps to 0 (R116). -/
def wrapInc (n : Nat) : Nat := (n + 1) % Config.frameCounterModulus

/-- A value clamped to ±n (§0.11). -/
def clampTo (n : Nat) (v : Int) : Int := max (-(n : Int)) (min (n : Int) v)

end Sys2Proof.Machine
end

