-- ==== Sys2Proof/Machine/Memory.lean ====
section
/-! DEFINITION. Frame memory (R43, R60): 24 slots of 1920 × 1200 positions, one pixel each, as a list of the positions that
do not hold black, in one canonical form. -/

namespace Sys2Proof.Machine

/-- The number of a position of a slot. Each slot has room for 1200 lines of 1920 columns (R43). -/
def position (store : Fin 8) (slot : Fin 3) (line column : Nat) : Nat :=
  ((store.val * 3 + slot.val) * Config.slotLines + line) * Config.slotColumns + column

/-- The pixel at a position. An unlisted position holds black, as FMC's power-on fill leaves it (R43, log 10). -/
def memRead : List (Nat × Colour) → Nat → Colour
  | [], _ => Colour.black
  | (k, c) :: rest, p => if k = p then c else memRead rest p

/-- The memory with one position written, its form kept: rising positions, none of them black. -/
def memWrite : List (Nat × Colour) → Nat → Colour → List (Nat × Colour)
  | [], p, c => if c = Colour.black then [] else [(p, c)]
  | (k, d) :: rest, p, c =>
    if p < k then (if c = Colour.black then (k, d) :: rest else (p, c) :: (k, d) :: rest)
    else if p = k then (if c = Colour.black then rest else (p, c) :: rest)
    else (k, d) :: memWrite rest p c

/-- The canonical form: positions strictly rising and no listed position black. -/
def memWf : List (Nat × Colour) → Bool
  | [] => true
  | [(_, c)] => c ≠ Colour.black
  | (k, c) :: (k', c') :: rest => c ≠ Colour.black && k < k' && memWf ((k', c') :: rest)

/-- The pixels of a PIC write placed along its line from its first pixel (R60). Pixels at column 1920 or beyond are not
written. -/
def memWriteRun (m : List (Nat × Colour)) (store : Fin 8) (slot : Fin 3) (line column : Nat) :
    List Colour → List (Nat × Colour)
  | [] => m
  | c :: rest =>
    if line < Config.slotLines ∧ column < Config.slotColumns then
      memWriteRun (memWrite m (position store slot line column) c) store slot line (column + 1) rest
    else m

end Sys2Proof.Machine
end

