-- ==== Sys2Proof/Machine/Operands.lean ====
section
/-! DEFINITION. Operand forms: the encodings of R177 read from request parameters (a value outside its encoding has no
reading) and written into replies, and the layouts of §11.5. -/

namespace Sys2Proof.Machine

/-! ### Reading -/

/-- A numbered item below `n` (§0.9). -/
def readIndex (n : Nat) (b : Byte) : Option (Fin n) := if h : b.toNat < n then some ⟨b.toNat, h⟩ else none

/-- A number in `lo..hi`. -/
def readRange (lo hi v : Nat) : Option Nat := if lo ≤ v ∧ v ≤ hi then some v else none

/-- A signed number in `lo..hi`. -/
def readSigned (lo hi v : Int) : Option Int := if lo ≤ v ∧ v ≤ hi then some v else none

/-- A colour; bits 31 and 30 are not read. -/
def readColour (w : Word) : Colour := ⟨w.extractLsb' 20 10, w.extractLsb' 10 10, w.extractLsb' 0 10⟩

/-- An output mask; a set bit among bits 7..4 is out of range. -/
def readMask (b : Byte) : Option (BitVec 4) := if b.toNat < 16 then some (b.extractLsb' 0 4) else none

/-- A condition mask; bits 15..12 are not read. -/
def readConditions (h : Half) : BitVec 12 := h.extractLsb' 0 12

/-- A style: CUT, DISSOLVE, FADE. -/
def readStyle (b : Byte) : Option Style :=
  match b.toNat with
  | 0 => some .cut
  | 1 => some .dissolve
  | 2 => some .fade
  | _ => none

/-- An output mode: DARK, SHOWING. -/
def readMode (b : Byte) : Option OutputMode :=
  match b.toNat with
  | 0 => some .dark
  | 1 => some .showing
  | _ => none

/-- A bank: ACTIVE, PENDING. -/
def readBank (b : Byte) : Option Bank :=
  match b.toNat with
  | 0 => some .active
  | 1 => some .pending
  | _ => none

/-- A cue mode: ONCE, REPEAT. -/
def readCueMode (b : Byte) : Option CueMode :=
  match b.toNat with
  | 0 => some .once
  | 1 => some .repeating
  | _ => none

/-- The first byte of a content value: the source or list number. -/
def valueByte (value : Word) : Byte := value.extractLsb' 24 8

/-- A content: SOURCE, LIST, COLOUR (R6, R177). -/
def readContent (kind : Byte) (value : Word) : Option Content :=
  match kind.toNat with
  | 0 => (readIndex 16 (valueByte value)).map .source
  | 1 => (readIndex 4 (valueByte value)).map .list
  | 2 => some (.colour (readColour value))
  | _ => none

/-- The content a TAKE may carry: no LIST (R75). -/
def readShown (kind : Byte) (value : Word) : Option Shown :=
  match kind.toNat with
  | 0 => (readIndex 16 (valueByte value)).map .source
  | 2 => some (.colour (readColour value))
  | _ => none

/-- An optional field: its presence bit clear, it is absent and its bytes are not read; set, it must be in range. -/
def readOptional {α : Type} (present : Bool) (v : Option α) : Option (Option α) :=
  if present then v.map some else some none

/-- The crop of a window record (R1, R6). -/
def readCrop (r : RawWindow) : Option Crop := do
  let cx0 ← readRange 0 1919 r.cx0.toNat
  let cy0 ← readRange 0 1199 r.cy0.toNat
  let cw ← readRange 1 1920 r.cw.toNat
  let ch ← readRange 1 1200 r.ch.toNat
  some ⟨cx0, cy0, cw, ch⟩

/-- The border of a window record: width and colour are both present or both absent (R1, R6). -/
def readBorder (r : RawWindow) : Option (Option Border) :=
  match r.presence.getLsbD 1, r.presence.getLsbD 2 with
  | false, false => some none
  | true, true => (readRange 0 15 r.borderWidth.toNat).map (fun b => some ⟨b, readColour r.borderColour⟩)
  | _, _ => none

/-- The opacity of a window record: bits 15..9 are not read, and 257..511 is taken as 256 (R6). -/
def readOpacity (h : Half) : Nat := min (h.extractLsb' 0 9).toNat 256

/-- A window record with every field within its range and its encoding (R1, R6). -/
def readWindow (r : RawWindow) : Option WindowRecord := do
  let number ← readIndex 8 r.number
  let content ← readContent r.kind r.value
  let x0 ← readSigned (-2048) 4095 r.x0.toInt
  let y0 ← readSigned (-2048) 4095 r.y0.toInt
  let width ← readRange 1 4096 r.width.toNat
  let height ← readRange 1 4096 r.height.toNat
  let crop ← readOptional (r.presence.getLsbD 0) (readCrop r)
  let border ← readBorder r
  some {
    number, content, x0, y0, width, height, crop
    opacity := readOpacity r.opacity
    border
    fallback := if r.presence.getLsbD 3 then some (readColour r.fallback) else none }

/-- A list of bytes all of which name sources. -/
def readSources : List Byte → Option (List (Fin 16))
  | [] => some []
  | b :: rest => do
    let s ← readIndex 16 b
    let ss ← readSources rest
    some (s :: ss)

/-- The staged list a ROTSET carries (R104): the first `count` entry bytes are read, and a dwell of 0 is taken as 1. -/
def readStagedList (count : Byte) (entries : List Byte) (dwell : Half) (style duration : Byte) : Option StagedList := do
  let n ← readRange 1 8 count.toNat
  let ss ← readSources ((padTo 8 entries).take n)
  let st ← readStyle style
  some ⟨ss, max dwell.toNat 1, st, duration.toNat⟩

/-- A raster as a RASTER request carries it: the timing fields are one less than their values (R118, R177). -/
def readRaster (activeWidth activeHeight totalWidth totalHeight : Half) (background : Word) : Option Raster := do
  let aw ← readRange 640 1920 (activeWidth.toNat + 1)
  let ah ← readRange 360 1200 (activeHeight.toNat + 1)
  let tw ← readRange (aw + 16) 4095 (totalWidth.toNat + 1)
  let th ← readRange (ah + 4) 2047 (totalHeight.toNat + 1)
  some ⟨aw, ah, tw, th, readColour background⟩

/-- The action of a CUESET (R151, R156). -/
def readCueAction (action argument mask : Byte) : Option CueAction := do
  let m ← readMask mask
  match action.toNat with
  | 0 => (readIndex 8 argument).map (fun n => .recall n m)
  | 1 => (readMode argument).map (fun d => .mode d m)
  | _ => none

/-- The entry a CUESET writes: in use, its matching flag clear (R151, R156). -/
def readCue (c : RawCue) : Option Cue := do
  let weekday ← readOptional (c.presence.getLsbD 0) (readRange 0 6 c.weekday.toNat)
  let hour ← readOptional (c.presence.getLsbD 1) (readRange 0 23 c.hour.toNat)
  let minute ← readOptional (c.presence.getLsbD 2) (readRange 0 59 c.minute.toNat)
  let second ← readOptional (c.presence.getLsbD 3) (readRange 0 59 c.second.toNat)
  let frame ← readOptional (c.presence.getLsbD 4) (readRange 0 59 c.frame.toNat)
  let mode ← readCueMode c.mode
  let action ← readCueAction c.action c.argument c.mask
  some { weekday, hour, minute, second, frame, mode, action, matching := false }

/-- The time of a TIMEBASE, if it is valid (R150). -/
def readClock (weekday hour minute second frame : Byte) : Option Clock := do
  let wd ← readRange 0 6 weekday.toNat
  let h ← readRange 0 23 hour.toNat
  let m ← readRange 0 59 minute.toNat
  let sec ← readRange 0 59 second.toNat
  let f ← readRange 0 59 frame.toNat
  some ⟨wd, h, m, sec, f⟩

/-- The source field of a GENLOCK: a source, or 255 for none (R120, R177). -/
def readReference (b : Byte) : Option (Option (Fin 16)) :=
  if b.toNat = 255 then some none else (readIndex 16 b).map some

/-! ### Writing -/

/-- A mark that is 0 or 1. -/
def flagByte (b : Bool) : Byte := if b then 1#8 else 0#8

/-- A colour in four bytes; bits 31 and 30 are written as 0. -/
def colourWord (c : Colour) : Word := (0#2 ++ c.y ++ c.cb ++ c.cr : BitVec (2 + 10 + 10 + 10))

/-- The condition mask of the twelve conditions; bits 15..12 are written as 0. -/
def conditionsHalf (c : BitVec 12) : Half := (0#4 ++ c : BitVec (4 + 12))

/-- The number of a reply code (R177). -/
def ReplyCode.number : ReplyCode → Byte
  | .done => 0
  | .armed => 1
  | .busy => 2
  | .staged => 3
  | .range => 4
  | .absent => 5
  | .duplicate => 6
  | .full => 7
  | .pinned => 8
  | .shared => 9
  | .frozen => 10
  | .notLive => 11
  | .unknown => 12

/-- The number of a link state (R177). -/
def LinkState.number : LinkState → Byte
  | .down => 0
  | .hunt => 1
  | .sync => 2

/-- The number of a genlock state (R177). -/
def GenlockState.number : GenlockState → Byte
  | .free => 0
  | .acquire => 1
  | .track => 2
  | .locked => 3

/-- The number of a source state (R177). -/
def SourceState.number : SourceState → Byte
  | .unbound => 0
  | .waiting => 1
  | .live => 2
  | .stale => 3
  | .lost => 4

/-- The number of a slot's state: EMPTY, FILLING, CLOSING, COMPLETE, DAMAGED (R177). -/
def SlotRecord.stateNumber (r : SlotRecord) : Byte :=
  match r.frame with
  | none => 0
  | some f =>
    match f.phase with
    | .filling => 1
    | .closing => 2
    | .complete _ => 3
    | .damaged => 4

/-- The number of a survey state (R177). -/
def SurveyState.number : SurveyState → Byte
  | .idle => 0
  | .running => 1
  | .done => 2

/-- The number of a reset cause (R177). -/
def ResetCause.number : ResetCause → Byte
  | .powerOn => 0
  | .restart => 1

/-- The chain address, 0 when the part is unassigned (R177). -/
def addressByte (a : Option Byte) : Byte := a.getD 0#8

/-- A number that is written as 255 when it is absent (R177). -/
def orAbsent {n : Nat} (x : Option (Fin n)) : Byte := (x.map (fun i => byteOf i.val)).getD 255#8

/-- The kind and value bytes of a content (R177): a source or list number stands in the first byte of the value. -/
def contentBytes : Content → List Byte
  | .source s => [0, byteOf s.val, 0, 0, 0]
  | .list r => [1, byteOf r.val, 0, 0, 0]
  | .colour c => 2 :: wordBytes (colourWord c)

/-- The kind and value bytes of a content that is no list. -/
def shownBytes : Shown → List Byte
  | .source s => [0, byteOf s.val, 0, 0, 0]
  | .colour c => 2 :: wordBytes (colourWord c)

/-- The presence byte of a window record (§11.5). -/
def presenceByte (r : WindowRecord) : Byte :=
  byteOf ((if r.crop.isSome then 1 else 0) + (if r.border.isSome then 6 else 0) + (if r.fallback.isSome then 8 else 0))

/-- The crop bytes; written as 0 when the crop is absent (R177). -/
def cropBytes : Option Crop → List Byte
  | none => List.replicate 8 0#8
  | some c => natHalf c.cx0 ++ natHalf c.cy0 ++ natHalf c.cw ++ natHalf c.ch

/-- The 34 bytes of a window record as WINREAD writes them (§11.5); the bytes of an absent field are 0 (R177). -/
def windowBytes (r : WindowRecord) : List Byte :=
  [byteOf r.number.val] ++ contentBytes r.content ++ intHalf r.x0 ++ intHalf r.y0 ++ natHalf r.width
    ++ natHalf r.height ++ [presenceByte r] ++ cropBytes r.crop ++ natHalf r.opacity
    ++ [byteOf ((r.border.map Border.width).getD 0)]
    ++ wordBytes ((r.border.map (fun b => colourWord b.colour)).getD 0#32)
    ++ wordBytes ((r.fallback.map colourWord).getD 0#32)

/-- The 46-byte header region of an RSP cell (§11.2); the part writes its unused bytes as 0 (R176). -/
def replyHeader (r : Reply) : List Byte :=
  padTo 46 ([7, r.target, r.tag, r.request, r.code.number, flagByte r.attention] ++ r.result)

/-- The bytes of the cell sent downstream in place of a received one (R138, R176); break symbols are no cell. -/
def sentCell (received : List Byte) : Sent → Option (List Byte)
  | .unchanged => some received
  | .reply r => some (cellOf (replyHeader r) (List.replicate 960 0#8))
  | .enumNext next => some (cellOf ((received.take 46).set 1 next) (received.drop 48))
  | .fill => some (cellOf (List.replicate 46 0#8) (List.replicate 960 0#8))
  | .breakSymbols => none

end Sys2Proof.Machine
end

