-- ==== Sys2Proof/Machine/Ops.lean ====
section
/-! DEFINITION. The operations that several commands share: delivering a cell and a request, forming the reply, window lists,
stores and pins, recalls, transitions, freezes and the loss of the genlock reference. -/

namespace Sys2Proof.Machine

/-- What a command answers. -/
abbrev Result := Host.Outcome State Fault Refusal

/-! ### Cells and requests (TRX, FWD, RQU) -/

/-- Replaces TRX's link state (R129). -/
def State.withLink (s : State) (l : LinkState) : State := s.setTrx { s.trx with link := l }

/-- A good header in SYNC sets the consecutive-error count to 0 (R133). -/
def State.goodCell (s : State) : State := s.setTrx { s.trx with consecErrors := 0 }

/-- A cell position out of SYNC: no block gets the cell and FILL goes downstream in its place (R131, R132). While a break is
received no cell arrives and break symbols go on downstream (R135). -/
def State.noCell (s : State) : State := if s.trx.brk.isSome then s else s.send .fill

/-- A cell with a good header arrives: in SYNC it is handed on and `act` takes it (R133); otherwise no block gets it
(R131, R132, log 3). -/
def onCell (act : State → State) (s : State) : Result :=
  .next (if s.trx.link = .sync then act s.goodCell else s.noCell)

/-- A cell whose copy goes to the blocks that use it, while the cell itself goes downstream unchanged (R133). -/
def onForwarded (act : State → State) (s : State) : Result := onCell (fun s => (act s).send .unchanged) s

/-- What RQU answers to an addressed request (R161, R162): the state after its effect, the reply code, the result, and the
conditions its attention indicator shows when they are not those of that state. -/
structure Answer where
  state : State
  code : ReplyCode
  result : List Byte := []
  attention : Option Bool := none

/-- A refusal: no state changes and the result is empty (R161, R162). -/
def refuse (s : State) (code : ReplyCode) : Answer := { state := s, code }

/-- The reply to a request (R162): the attention indicator is read after the request's own effects (R165), and the result is
padded to 40 bytes (R177). -/
def Answer.reply (a : Answer) (q : ReqHead) (code : Byte) : Reply where
  target := q.target
  tag := q.tag
  request := code
  code := a.code
  attention := a.attention.getD a.state.attention
  result := padTo 40 a.result

/-- The state after an addressed request, its reply on the way downstream (R138, R161). -/
def Answer.sent (a : Answer) (q : ReqHead) (code : Byte) : State := a.state.send (.reply (a.reply q code))

/-- Delivering a request (R141, R142): addressed to this part, RQU executes it and the reply replaces it; broadcast, RQU takes
`all` and the cell goes on unchanged; for another part, it goes on unchanged. -/
def onRequest (q : ReqHead) (code : Byte) (own : State → Answer) (all : State → State) (s : State) : Result :=
  onCell (fun s =>
    if q.target.toNat = Config.broadcastTarget then (all s).send .unchanged
    else if s.address = some q.target then (own s).sent q code
    else s.send .unchanged) s

/-- A request that may not be broadcast: a broadcast of it is ignored (R164). -/
def onAddressed (q : ReqHead) (code : Byte) (own : State → Answer) (s : State) : Result := onRequest q code own id s

/-- A request whose broadcast has the effect of the addressed request (R164). -/
def onEither (q : ReqHead) (code : Byte) (own : State → Answer) (s : State) : Result :=
  onRequest q code own (fun s => (own s).state) s

/-! ### Window lists (LYU) -/

/-- The record of a window number in a list. -/
def findWindow (l : List WindowRecord) (w : Fin 8) : Option WindowRecord := l.find? (fun r => r.number = w)

/-- The position of a window number in a list (R2). -/
def windowPosition (l : List WindowRecord) (w : Fin 8) : Nat := l.findIdx (fun r => r.number = w)

/-- The list with the record of the same number replaced at its position (R7). -/
def replaceWindow (l : List WindowRecord) (r : WindowRecord) : List WindowRecord :=
  l.map (fun x => if x.number = r.number then r else x)

/-- The list without a window number; the records above it move down (R2, R8). -/
def dropWindow (l : List WindowRecord) (w : Fin 8) : List WindowRecord := l.filter (fun r => r.number ≠ w)

/-- The list with a record inserted at a position, or at the top if the position is not in the list (R2, R9). -/
def insertWindow (l : List WindowRecord) (p : Nat) (r : WindowRecord) : List WindowRecord := l.take p ++ r :: l.drop p

/-- The list with one window's content written, every other field kept (R21). -/
def writeContent (l : List WindowRecord) (w : Fin 8) (c : Content) : List WindowRecord :=
  l.map (fun r => if r.number = w then { r with content := c } else r)

/-- The bank of an output (R3). -/
def Output.bank (out : Output) : Bank → List WindowRecord
  | .active => out.active
  | .pending => out.pending

/-- A window number's record in the active bank of an output. -/
def State.activeWindow (s : State) (o : Fin 4) (w : Fin 8) : Option WindowRecord := findWindow (s.output o).active w

/-- The outputs a mask names, in order. -/
def maskOutputs (mask : BitVec 4) : List (Fin 4) := (List.finRange 4).filter (fun o => mask.getLsbD o.val)

/-- Applies an update to every output of a mask. -/
def forOutputs (mask : BitVec 4) (f : Fin 4 → State → State) (s : State) : State :=
  (maskOutputs mask).foldl (fun s o => f o s) s

/-- Recalls preset `n` into one output, if it is present (R17, R18). -/
def recallInto (n : Fin 8) (o : Fin 4) (s : State) : State :=
  match (s.output o).preset n with
  | none => s
  | some l =>
    (s.setOutput o { s.output o with pending := l, dirty := false, armed := true }).raiseIf (s.output o).dirty
      .editOverridden

/-- Sets the held mode of one output (R19). -/
def setMode (m : OutputMode) (o : Fin 4) (s : State) : State := s.setOutput o { s.output o with mode := m }

/-! ### Stores and pins (STM) -/

/-- The store bound to a source (R49: at most one). -/
def State.storeOf (s : State) (src : Fin 16) : Option (Fin 8) :=
  (List.finRange 8).find? (fun i => (s.store i).binding = some src)

/-- The completion number of a slot in COMPLETE (R52). -/
def SlotRecord.number? (r : SlotRecord) : Option Nat :=
  match r.frame with
  | some { phase := .complete n, .. } => some n
  | _ => none

/-- A slot is FILLING (R52). -/
def SlotRecord.filling (r : SlotRecord) : Bool :=
  match r.frame with
  | some { phase := .filling, .. } => true
  | _ => false

/-- A slot is CLOSING (R52). -/
def SlotRecord.closing (r : SlotRecord) : Bool :=
  match r.frame with
  | some { phase := .closing, .. } => true
  | _ => false

/-- A slot is EMPTY or DAMAGED (R52). -/
def SlotRecord.spare (r : SlotRecord) : Bool :=
  match r.frame with
  | none => true
  | some { phase := .damaged, .. } => true
  | _ => false

/-- The store's newest COMPLETE slot: the COMPLETE slot with the highest completion number (R53). -/
def Store.newest (st : Store) : Option (Fin 3) :=
  (List.finRange 3).find? (fun k =>
    match (st.slot k).number? with
    | none => false
    | some n => (List.finRange 3).all (fun j => ((st.slot j).number?.getD 0) ≤ n))

/-- The store's selected slot (R62). -/
def Store.selectedSlot (st : Store) : Option (Fin 3) := (List.finRange 3).find? (fun k => (st.slot k).selected)

/-- The store's pinned slot (R64: at most one). -/
def Store.pinnedSlot (st : Store) : Option (Fin 3) := (List.finRange 3).find? (fun k => 0 < (st.slot k).pins)

/-- Moves a store's selection to its newest COMPLETE slot (R62). -/
def Store.select (st : Store) : Store :=
  { st with slots := tmap (fun k r => { r with selected := decide (st.newest = some k) }) st.slots }

/-- Changes the pin count of a slot. -/
def Store.setPins (st : Store) (k : Fin 3) (n : Nat) : Store := st.setSlot k { st.slot k with pins := n }

/-- STM's answer to a pin request (R64). -/
inductive PinAnswer where
  | made (slot : Fin 3)
  | joined (slot : Fin 3)
  | noSlot
deriving DecidableEq, Repr

/-- What STM answers to a pin request on a store (R64): an existing pin is joined; otherwise the selected slot is pinned. -/
def Store.pinAnswer (st : Store) : PinAnswer :=
  match st.pinnedSlot with
  | some k => .joined k
  | none =>
    match st.selectedSlot with
    | some k => .made k
    | none => .noSlot

/-- Pins slot `k` of store `i` once more (R64). -/
def pinSlot (i : Fin 8) (k : Fin 3) (s : State) : State :=
  s.setStore i ((s.store i).setPins k (((s.store i).slot k).pins + 1))

/-- Unpins slot `k` of store `i` (R64). -/
def unpinSlot (i : Fin 8) (k : Fin 3) (s : State) : State :=
  s.setStore i ((s.store i).setPins k (((s.store i).slot k).pins - 1))

/-- The store an entry of the write queue belongs to. -/
def QueueEntry.store : QueueEntry → Fin 8
  | .pic i _ _ _ _ => i
  | .close i _ => i

/-- Removes a store's entries from the write queue; the others keep their order (R51). -/
def flushQueue (i : Fin 8) (s : State) : State := { s with queue := s.queue.filter (fun e => e.store ≠ i) }

/-! ### Genlock reference (RGU) -/

/-- The reference source's store has left LIVE (R125): genlock is FREE, and REFERENCE_LOST is set, with LOCK_CHANGE if the state
was LOCKED. -/
def referenceLoss (s : State) : State :=
  ((s.setRgu { s.rgu with genlock := .free, reference := none, trim := 0, nextCorr := 0, capture := none, lastE := none,
                           goodCount := 0, badCount := 0 }).raise .referenceLost).raiseIf
    (decide (s.rgu.genlock = .locked)) .lockChange

/-- STM hands RGU a store of source `src` that leaves LIVE, is rebound or is released; RGU acts if it is the reference and
genlock is not FREE (R68, R125). -/
def leaveLive (src : Fin 16) (s : State) : State :=
  if s.rgu.genlock ≠ .free ∧ s.rgu.reference = some src then referenceLoss s else s

/-- Ends the binding of a bound store (R51): its queue entries go, FZU forgets the armings that name it (R97), and RGU is told
(R125). -/
def endBinding (i : Fin 8) (s : State) : State :=
  match (s.store i).binding with
  | none => s
  | some src =>
    let s := flushQueue i s
    let s := { s with
      freezes := gmap (fun _ _ f => match f with
        | .armed t j => if j = i then .none else .armed t j
        | other => other) s.freezes }
    leaveLive src s

/-! ### Transitions (TXU) -/

/-- A list's current entry (R102): none when it is empty. -/
def RotationList.current (l : RotationList) : Option (Fin 16) := l.entries[l.position]?

/-- The displayed content of a record whose transition record is IDLE (R74). -/
def idleContent (s : State) (r : WindowRecord) : Shown :=
  match r.content with
  | .source src => .source src
  | .colour c => .colour c
  | .list l =>
    match (s.list l).current with
    | some src => .source src
    | none => .colour (r.fallback.getD s.rgu.raster.background)

/-- The displayed content of window `w` of output `o`, whose active record is `r` (R74). -/
def displayed (s : State) (o : Fin 4) (w : Fin 8) (r : WindowRecord) : Shown :=
  match s.transition o w with
  | .running t => t.toContent
  | .idle => idleContent s r

/-- The duration a start takes (R76). -/
def takenDuration (style : Style) (duration : Nat) : Nat :=
  match style with
  | .cut => 1
  | _ => max duration 1

/-- The record a start leaves, from content `a` to content `b` (R79): any running transition has ended. -/
def startRecord (a b : Shown) (style : Style) (duration : Nat) (origin : Origin) : TransitionRecord :=
  if a = b then .idle else .running ⟨a, b, style, duration, 0, origin⟩

/-- A transition record advances one output frame, and ends when its position reaches its duration (R78). -/
def advanceRecord : TransitionRecord → TransitionRecord
  | .idle => .idle
  | .running t => if t.duration ≤ t.position + 1 then .idle else .running { t with position := t.position + 1 }

/-- A transition's next advance ends it (R78). -/
def TransitionRecord.lastFrame : TransitionRecord → Bool
  | .idle => false
  | .running t => t.duration ≤ t.position + 1

/-- The content of a record as a window record holds it. -/
def Shown.content : Shown → Content
  | .source s => .source s
  | .colour c => .colour c

/-! ### Freezes (FZU) -/

/-- The frozen source of a record that names store `i`: the source bound to it (R95). -/
def State.frozenSource (s : State) (i : Fin 8) : Option (Fin 16) := (s.store i).binding

/-- A freeze is taken on a window (R90, R92): it is FROZEN on the slot, whose pin count rises, and its transition ends
(R84). -/
def takeFreeze (o : Fin 4) (w : Fin 8) (i : Fin 8) (k : Fin 3) (shared : Bool) (s : State) : State :=
  ((pinSlot i k s).setFreeze o w (.frozen i k shared)).setTransition o w .idle

/-- A freeze record is released: FROZEN, its slot is unpinned; in every case it becomes NONE (R94, R95). -/
def releaseFreeze (o : Fin 4) (w : Fin 8) (s : State) : State :=
  match s.freeze o w with
  | .frozen i k _ => (unpinSlot i k s).setFreeze o w .none
  | .armed _ _ => s.setFreeze o w .none
  | .none => s

/-- The frame tag a slot holds, 0 for an EMPTY slot (log 11). -/
def SlotRecord.tagByte (r : SlotRecord) : Byte := (r.frame.map FrameInfo.tag).getD 0#8

end Sys2Proof.Machine
end

