-- ==== Sys2Proof/Machine/Compose.lean ====
section
/-! DEFINITION. Composition (spec 2): latching the frame plans, and the pixels the outputs send. -/

namespace Sys2Proof.Machine

/-! ### The frame plan -/

/-- A SLOT side, with the slot's own frame width and height at the latch (R24, R28, R30). -/
def slotSide (s : State) (fallback : Colour) (i : Fin 8) (k : Fin 3) : Side :=
  match ((s.store i).slot k).frame with
  | some f => .slot i k f.width f.height
  | none => .colour fallback

/-- A side for content SOURCE(s), with the plan entry's fallback colour (R28). -/
def sourceSide (s : State) (fallback : Colour) (src : Fin 16) : Side :=
  match s.storeOf src with
  | none => .colour fallback
  | some i =>
    match (s.store i).state, (s.store i).selectedSlot with
    | .live, some k => slotSide s fallback i k
    | .stale, some k => slotSide s fallback i k
    | _, _ => .colour fallback

/-- A side for a content of a transition record (R31). -/
def shownSide (s : State) (fallback : Colour) : Shown → Side
  | .source src => sourceSide s fallback src
  | .colour c => .colour c

/-- A side for a window record's content (R28, R29, R31). -/
def contentSide (s : State) (fallback : Colour) : Content → Side
  | .source src => sourceSide s fallback src
  | .colour c => .colour c
  | .list r =>
    match (s.list r).current with
    | some src => sourceSide s fallback src
    | none => .colour fallback

/-- The drawing of a window at the latch: the pinned slot of a frozen window (R30), the two sides of a running transition
(R31), or the one side its content resolves to. -/
def drawingOf (s : State) (o : Fin 4) (fallback : Colour) (r : WindowRecord) : Drawing :=
  match s.freeze o r.number, s.transition o r.number with
  | .frozen i k _, _ => .single (slotSide s fallback i k)
  | _, .running t =>
    .mixed (shownSide s fallback t.fromContent) (shownSide s fallback t.toContent) t.style t.duration t.position
  | _, .idle => .single (contentSide s fallback r.content)

/-- The fallback colour latched for a record (R32). -/
def latchedFallback (s : State) (r : WindowRecord) : Colour := r.fallback.getD s.rgu.raster.background

/-- The plan entry of a record (R24). -/
def planEntry (s : State) (o : Fin 4) (r : WindowRecord) : PlanEntry where
  number := r.number
  x0 := r.x0
  y0 := r.y0
  width := r.width
  height := r.height
  crop := r.crop
  opacity := r.opacity
  borderWidth := (r.border.map Border.width).getD 0
  borderColour := r.border.map Border.colour
  fallback := latchedFallback s r
  drawing := drawingOf s o (latchedFallback s r) r

/-- The frame plan of an output (R24): a DARK output's plan holds no entries. -/
def planOf (s : State) (o : Fin 4) : FramePlan where
  mode := (s.output o).mode
  activeWidth := s.rgu.raster.activeWidth
  activeHeight := s.rgu.raster.activeHeight
  background := s.rgu.raster.background
  entries :=
    match (s.output o).mode with
    | .dark => []
    | .showing => (s.output o).active.map (planEntry s o)

/-- CMP latches a frame plan for each output (R24). -/
def latchPlans (s : State) : State := { s with plans := Vector.ofFn (fun o => some (planOf s o)) }

/-! ### Geometry and sampling -/

/-- A rectangle of an output, by its left column, top line, width and height. -/
structure Rect where
  x : Int
  y : Int
  w : Int
  h : Int
deriving DecidableEq, Repr

/-- An output pixel lies in a rectangle. -/
def Rect.covers (r : Rect) (x y : Int) : Bool := r.x ≤ x && x < r.x + r.w && r.y ≤ y && y < r.y + r.h

/-- A plan entry's rectangle (R34). -/
def PlanEntry.rect (e : PlanEntry) : Rect := ⟨e.x0, e.y0, e.width, e.height⟩

/-- A plan entry's inner rectangle (R33); it has no pixel when its width or height is not positive. -/
def PlanEntry.inner (e : PlanEntry) : Rect :=
  ⟨e.x0 + e.borderWidth, e.y0 + e.borderWidth, (e.width : Int) - 2 * e.borderWidth, (e.height : Int) - 2 * e.borderWidth⟩

/-- The effective crop of a SLOT side of a frame `wf` × `hf` (R36): none when it is empty. -/
def effectiveCrop (crop : Option Crop) (wf hf : Nat) : Option Crop :=
  match crop with
  | none => some ⟨0, 0, wf, hf⟩
  | some c =>
    if wf ≤ c.cx0 ∨ hf ≤ c.cy0 then none
    else some ⟨c.cx0, c.cy0, min (c.cx0 + c.cw) wf - c.cx0, min (c.cy0 + c.ch) hf - c.cy0⟩

/-- The sample position along one axis (R37): `i` of `size` inner pixels, over `extent` samples from `origin`. -/
def samplePosition (origin extent i size : Nat) : Nat := origin + (2 * i + 1) * extent / (2 * size)

/-- The value of a side at an inner pixel (R37, R38). -/
def sideValue (m : List (Nat × Colour)) (e : PlanEntry) (x y : Int) : Side → Colour
  | .colour c => c
  | .slot i k wf hf =>
    match effectiveCrop e.crop wf hf with
    | none => e.fallback
    | some c =>
      memRead m (position i k
        (samplePosition c.cy0 c.ch (y - e.inner.y).toNat e.inner.h.toNat)
        (samplePosition c.cx0 c.cw (x - e.inner.x).toNat e.inner.w.toNat))

/-! ### Mixing and blending -/

/-- One component of a weighted sum in 256ths, rounded (R39, R40, R42). -/
def weigh (k b a : Nat) : Nat := (k * b + (256 - k) * a + 128) / 256

/-- A weighted sum of two colours: `k` 256ths of `b` and the rest of `a`. -/
def mix (k : Nat) (b a : Colour) : Colour :=
  ⟨BitVec.ofNat 10 (weigh k b.y.toNat a.y.toNat), BitVec.ofNat 10 (weigh k b.cb.toNat a.cb.toNat),
   BitVec.ofNat 10 (weigh k b.cr.toNat a.cr.toNat)⟩

/-- The factor of a dissolve (R39). -/
def dissolveFactor (f d : Nat) : Nat := 256 * f / d

/-- The factor of the half of a fade that is running (R40). -/
def fadeFactor (f d : Nat) : Nat := if 2 * f ≤ d then 512 * f / d else 512 * f / d - 256

/-- The window value of a MIXED drawing from the two side values and the fallback colour (R39, R40, R41). A CUT has D = 1 and
is latched at f = 0, where the dissolve's factor gives vA alone. -/
def mixedValue (style : Style) (d f : Nat) (fallback vA vB : Colour) : Colour :=
  match style with
  | .fade => if 2 * f ≤ d then mix (fadeFactor f d) fallback vA else mix (fadeFactor f d) vB fallback
  | _ => mix (dissolveFactor f d) vB vA

/-- The window value of a covered pixel (R35, R38). -/
def windowValue (m : List (Nat × Colour)) (e : PlanEntry) (x y : Int) : Colour :=
  if e.inner.covers x y then
    match e.drawing with
    | .single side => sideValue m e x y side
    | .mixed a b style d f => mixedValue style d f e.fallback (sideValue m e x y a) (sideValue m e x y b)
  else e.borderColour.getD e.fallback

/-- An output pixel lies in a plan's active area (R34). -/
def FramePlan.active (p : FramePlan) (x y : Int) : Bool := 0 ≤ x && x < p.activeWidth && 0 ≤ y && y < p.activeHeight

/-- A plan entry covers an output pixel: the pixel lies in the plan's active area and in the entry's rectangle (R34). -/
def FramePlan.covers (p : FramePlan) (e : PlanEntry) (x y : Int) : Bool := p.active x y && e.rect.covers x y

/-- One plan entry blended over what lies below it (R42). -/
def blendEntry (m : List (Nat × Colour)) (p : FramePlan) (x y : Int) (c : Colour) (e : PlanEntry) : Colour :=
  if p.covers e x y then mix e.opacity (windowValue m e x y) c else c

/-- The active pixel (x, y) of an output frame (R27, R42). -/
def planPixel (m : List (Nat × Colour)) (p : FramePlan) (x y : Nat) : Colour :=
  match p.mode with
  | .dark => Colour.black
  | .showing => p.entries.foldl (blendEntry m p x y) p.background

/-- The active pixel (x, y) of output `o`: none outside the plan's active area, where nothing is composed (R27, R34), and black while
CMP holds no plan (R26). Samples are read from frame memory as it stands (R43, R44). -/
def State.activePixel (s : State) (o : Fin 4) (x y : Nat) : Option Colour :=
  match tget s.plans o with
  | none => some Colour.black
  | some p => if p.active x y then some (planPixel s.memory p x y) else none

/-! ### The raster -/

/-- The nominal frame length of a raster (R114). -/
def Raster.nominal (r : Raster) : Nat := r.totalWidth * r.totalHeight

/-- The nominal leading blanking of a raster (R114). -/
def Raster.blanking (r : Raster) : Nat := (r.totalHeight - r.activeHeight) * r.totalWidth

/-- The column and line of the active pixel sent at a tick of a frame of length `length`, or blanking (R114). -/
def Raster.pixelAt (r : Raster) (length tick : Nat) : Option (Nat × Nat) :=
  let b := length - r.activeHeight * r.totalWidth
  if b ≤ tick ∧ tick < length ∧ (tick - b) % r.totalWidth < r.activeWidth then
    some ((tick - b) % r.totalWidth, (tick - b) / r.totalWidth)
  else none

/-- The column and line of the active pixel that the outputs send at the present tick (R114, R117): none in blanking, and none
between an output frame end and the output frame start that follows it, when no frame is scanned out. -/
def State.scanPosition (s : State) : Option (Nat × Nat) :=
  match s.rgu.scan with
  | .between => none
  | _ => s.rgu.raster.pixelAt s.rgu.length s.rgu.tick

/-- The active pixel of the present tick, with samples read from frame memory as it stands (R43, R114). -/
def State.scanPixel (s : State) (o : Fin 4) : Option Colour :=
  match s.scanPosition with
  | none => none
  | some (x, y) => s.activePixel o x y

/-- What output `o` sends at the present tick: an active pixel, or blanking (R27, R114, R117). Its samples are those its fetch got;
until then they are those frame memory holds. R45 has a fetch granted before its pixel is sent and leaves open how long before; that it
is raised at the pixel's own tick, and so shows every write granted at an earlier tick, is the model's choice (DESIGN CHOICE, log 28). -/
def State.outputPixel (s : State) (o : Fin 4) : Option Colour :=
  match tget s.samples o with
  | some c => some c
  | none => s.scanPixel o

/-! ### The frame memory controller -/

/-- A side takes a sample: it is a slot whose effective crop is not empty (R37, R38). -/
def Side.sampled (crop : Option Crop) : Side → Bool
  | .colour _ => false
  | .slot _ _ wf hf => (effectiveCrop crop wf hf).isSome

/-- A drawing takes samples; a MIXED one fetches both sides (R46). -/
def Drawing.sampled (crop : Option Crop) : Drawing → Bool
  | .single side => side.sampled crop
  | .mixed a b _ _ _ => a.sampled crop || b.sampled crop

/-- The output pixel (x, y) needs samples: an entry of a SHOWING plan takes them at an inner pixel it covers, hidden or not
(R27, R35, R46). -/
def FramePlan.sampled (p : FramePlan) (x y : Int) : Bool :=
  decide (p.mode = .showing) && p.entries.any (fun e => p.covers e x y && e.inner.covers x y && e.drawing.sampled e.crop)

/-- The pixel of the present tick of output `o` needs samples. -/
def State.needsFetch (s : State) (o : Fin 4) : Bool :=
  match s.scanPosition, tget s.plans o with
  | some (x, y), some p => p.sampled x y
  | _, _ => false

/-- The fetches that CMP raises for the pixels of the present tick (R45, log 28). -/
def State.raisedFetches (s : State) : List Fetch :=
  ((List.finRange 4).filter s.needsFetch).map (fun o => ⟨o, s.rgu.tick⟩)

/-- The raster moves to a tick (R113): the pixels of the tick before have been sent and FMC's access of that tick is over, and CMP
raises the fetches for the new tick (R45, log 28). -/
def moveTick (tick : Nat) (s : State) : State :=
  let t := s.setRgu { s.rgu with tick }
  { t with fmc := ⟨t.raisedFetches, none⟩, samples := Vector.replicate 4 none }

/-- The scan-out fetch that has waited longest, the lowest-numbered output among equals (R45). -/
def longestWaiting : List Fetch → Option Fetch
  | [] => none
  | f :: rest =>
    match longestWaiting rest with
    | none => some f
    | some g => if f.raised < g.raised ∨ (f.raised = g.raised ∧ f.output ≤ g.output) then some f else some g

/-- FMC's arbitration when a grant is free (R45): the fetch that has waited longest, then the queue's head; during the power-on fill
nothing is granted. -/
def State.arbitrate (s : State) : Option Grant :=
  match s.rgu.scan, longestWaiting s.fmc.fetches, s.queue with
  | .fill, _, _ => none
  | _, some f, _ => some (.fetch f)
  | _, none, [] => none
  | _, none, _ :: _ => some .queueHead

/-- FMC grants a fetch (R45): it waits no longer, and CMP has its output's pixel of the present tick. -/
def grantFetch (f : Fetch) (s : State) : State :=
  { s with
    fmc := ⟨s.fmc.fetches.erase f, some (.fetch f)⟩
    samples := tset s.samples f.output (s.scanPixel f.output) }

/-- FMC grants fetches as long as its arbitration chooses one, at most `n` of them. -/
def serveUpTo : Nat → State → State
  | 0, s => s
  | n + 1, s =>
    match s.arbitrate with
    | some (.fetch f) => serveUpTo n (grantFetch f s)
    | _ => s

/-- FMC grants every fetch that waits, each in its turn (R45): what comes before a grant to the write queue. -/
def serveFetches (s : State) : State := serveUpTo s.fmc.fetches.length s

end Sys2Proof.Machine
end

