-- ==== Sys2Proof/Machine/FrameEnd.lean ====
section
/-! DEFINITION. The output frame end, block by block (R115), the output frame start, and the idle tick. -/

namespace Sys2Proof.Machine

/-! ### STM -/

/-- The silence counter after one more output frame end (R66). -/
def silenceNext (loss silence : Nat) : Nat := if silence < loss then silence + 1 else loss

/-- The source state of a bound store whose counter has been counted (R66). -/
def silenceState (limits : Limits) (state : SourceState) (silence : Nat) : SourceState :=
  match state with
  | .live => if limits.loss ≤ silence then .lost else if limits.hold ≤ silence then .stale else .live
  | .stale => if limits.loss ≤ silence then .lost else .stale
  | other => other

/-- STM counts silence for one store (R66); RGU is told when the store leaves LIVE (R68, R125). -/
def countSilence (i : Fin 8) (s : State) : State :=
  let st := s.store i
  match st.binding with
  | none => s
  | some src =>
    let n := silenceNext s.limits.loss st.silence
    let state := silenceState s.limits st.state n
    let t := s.setStore i { st with silence := n, state }
    let t := t.raiseIf (decide (state = .stale ∧ st.state ≠ .stale)) .sourceStale
    let t := t.raiseIf (decide (state = .lost ∧ st.state ≠ .lost)) .sourceLost
    if st.state = .live ∧ state ≠ .live then leaveLive src t else t

/-- The silence part of an output frame end (R66). -/
def silencePart (s : State) : State :=
  (List.finRange 8).foldl (fun s i => if s.marked (.silence i) then s else countSilence i s) s

/-- STM moves the selection of one store, if it is bound (R62). -/
def selectStore (i : Fin 8) (s : State) : State :=
  if (s.store i).binding.isSome then s.setStore i (s.store i).select else s

/-- The selection part of an output frame end (R62). -/
def selectionPart (s : State) : State := (List.finRange 8).foldl (fun s i => selectStore i s) s

/-! ### LYU, with TXU's and FZU's decisions at a bank swap -/

/-- TXU's decision at a bank swap (R81): the transition is kept or ended by the new active record. -/
def swapTransition (new : Option WindowRecord) : TransitionRecord → TransitionRecord
  | .idle => .idle
  | .running t =>
    match new, t.origin with
    | some r, .take => if r.content = t.toContent.content then .running t else .idle
    | some r, .list l => if r.content = .list l then .running t else .idle
    | none, _ => .idle

/-- FZU keeps an armed or frozen record that names store `i` across a bank swap (R95). -/
def freezeKept (s : State) (new : Option WindowRecord) (i : Fin 8) : Bool :=
  match new, s.frozenSource i with
  | some r, some src => decide (r.content = .source src)
  | _, _ => false

/-- FZU's decision at a bank swap (R95): the record is kept, or released with its pin. -/
def swapFreeze (new : Option WindowRecord) (o : Fin 4) (w : Fin 8) (s : State) : State :=
  match s.freeze o w with
  | .none => s
  | .armed _ i => if freezeKept s new i then s else releaseFreeze o w s
  | .frozen i _ _ => if freezeKept s new i then s else releaseFreeze o w s

/-- TXU and FZU take the former and new record of one window number at a bank swap (R14, R73, R81, R95). -/
def swapWindow (o : Fin 4) (s : State) (w : Fin 8) : State :=
  let former := s.activeWindow o w
  let new := findWindow (s.output o).pending w
  let t := s.setFormer o w (some (former.map WindowRecord.content))
  swapFreeze new o w (t.setTransition o w (swapTransition new (t.transition o w)))

/-- The bank swap of one output (R14): the pending list becomes active, the pending bank a copy of it, and both flags clear. -/
def swapBanks (out : Output) : Output := { out with active := out.pending, armed := false, dirty := false }

/-- The bank swap of one output, if its commit is armed (R14). -/
def swapOutput (o : Fin 4) (s : State) : State :=
  if (s.output o).armed then
    let t := (List.finRange 8).foldl (swapWindow o) s
    t.setOutput o (swapBanks (t.output o))
  else s

/-- The swap part of an output frame end (R14). -/
def swapPart (s : State) : State := (List.finRange 4).foldl (fun s o => swapOutput o s) s

/-! ### TXU -/

/-- TXU advances every running transition that this output frame end has still to advance (R78). -/
def transitionPart (s : State) : State :=
  { s with transitions := gmap (fun o w t => if s.marked (.transition o w) then t else advanceRecord t) s.transitions }

/-! ### ROU -/

/-- The windows bound to list `r`, on any of the four outputs (R103). -/
def boundWindows (s : State) (r : Fin 4) : List (Fin 4 × Fin 8) :=
  (List.finRange 4).flatMap (fun o =>
    ((List.finRange 8).filter (fun w => (s.activeWindow o w).map WindowRecord.content = some (.list r))).map (fun w => (o, w)))

/-- TXU declines a start of origin LIST(r) on a window that a bank swap of this output frame end has just bound to the list
(R79, R82). -/
def startDeclined (s : State) (o : Fin 4) (w : Fin 8) (r : Fin 4) : Bool :=
  match s.formerOf o w with
  | none => false
  | some former => decide (former ≠ some (.list r))

/-- ROU asks TXU for a start on one bound window (R79, R109). The displayed content is read after a running transition has been
ended, and a transition that is started is not advanced at this output frame end (R78). Of a window bound to an EMPTY list it is a colour of
the active record, or the background, of that moment (R74); that the order of the blocks so decides the colour, where a swap of the same
output frame end brings another fallback colour, although R82 has one outcome for either order, is the model's choice (DESIGN CHOICE,
log 30). The mark of a transition that is started stays on the window until that output frame end, which so advances no other
transition of that window either, such as one that a TAKE starts after LIST_ADVANCE (DESIGN CHOICE, log 5). -/
def askStart (r : Fin 4) (b : Shown) (style : Style) (duration : Nat) (s : State) (ow : Fin 4 × Fin 8) : State :=
  match s.activeWindow ow.1 ow.2 with
  | none => s
  | some rec =>
    if startDeclined s ow.1 ow.2 r then s
    else
      let x := startRecord (idleContent s rec) b style (takenDuration style duration) (.list r)
      let t := s.setTransition ow.1 ow.2 x
      if x = .idle then t else t.mark (.transition ow.1 ow.2)

/-- ROU asks for starts on all windows bound to list `r` (R109). -/
def askStarts (r : Fin 4) (b : Shown) (style : Style) (duration : Nat) (s : State) : State :=
  (boundWindows s r).foldl (askStart r b style duration) s

/-- The other positions of a list of `n` entries that stands at position `p`, in the order an advance looks at them (R108). -/
def otherPositions (n p : Nat) : List Nat := (List.range (n - 1)).map (fun k => (p + 1 + k) % n)

/-- The store bound to a source is LIVE (R68, R108, R120). -/
def State.sourceLive (s : State) (src : Fin 16) : Bool :=
  match s.storeOf src with
  | none => false
  | some i => decide ((s.store i).state = .live)

/-- The position an advance moves a list to: the first other position whose source is LIVE (R108). -/
def nextLive (s : State) (l : RotationList) : Option (Nat × Fin 16) :=
  (otherPositions l.entries.length l.position).findSome? (fun p =>
    match l.entries[p]? with
    | some src => if s.sourceLive src then some (p, src) else none
    | none => none)

/-- The dwell of list `r` has run out (R107, R108): the list moves if it can, asking starts while it still stands at its former
position, and its counter is reloaded. -/
def advanceList (r : Fin 4) (s : State) : State :=
  let l := s.list r
  match nextLive s l with
  | none => s.setList r { l with counter := l.dwell }
  | some (p, src) => (askStarts r (.source src) l.style l.duration s).setList r { l with position := p, counter := l.dwell }

/-- A staged ROTSET is applied (R106): bound windows are cut to its first entry, then the list takes it. -/
def applyStaged (r : Fin 4) (st : StagedList) (s : State) : State :=
  let t := match st.entries with
    | [] => s
    | src :: _ => askStarts r (.source src) .cut 1 s
  t.setList r ⟨st.entries, st.dwell, st.style, st.duration, 0, st.dwell, none⟩

/-- The work of one list at an output frame end (R106, R107). -/
def listFrameEnd (r : Fin 4) (s : State) : State :=
  let l := s.list r
  match l.staged with
  | some st => applyStaged r st s
  | none =>
    if l.entries = [] then s
    else if l.counter ≤ 1 then advanceList r s
    else s.setList r { l with counter := l.counter - 1 }

/-- The lists part of an output frame end (R106, R107). -/
def listPart (s : State) : State :=
  (List.finRange 4).foldl (fun s r => if s.marked (.list r) then s else listFrameEnd r s) s

/-! ### FZU -/

/-- An armed freeze is examined against the selection of this output frame end (R92, R93). STM's selection of the store comes
first, whichever block acts first. -/
def takeArmed (o : Fin 4) (w : Fin 8) (s : State) : State :=
  match s.freeze o w with
  | .armed tag i =>
    let s := selectStore i s
    match (s.store i).selectedSlot with
    | none => s
    | some k =>
      if (((s.store i).slot k).frame.map FrameInfo.tag) = some tag then
        match (s.store i).pinAnswer with
        | .made j => takeFreeze o w i j false s
        | .joined j => takeFreeze o w i j (decide (j ≠ k)) s
        | .noSlot => s
      else s
  | _ => s

/-- The windows of the part, output by output. -/
def allWindows : List (Fin 4 × Fin 8) :=
  (List.finRange 4).flatMap (fun o => (List.finRange 8).map (fun w => (o, w)))

/-- The freezes part of an output frame end (R92). -/
def freezePart (s : State) : State := allWindows.foldl (fun s ow => takeArmed ow.1 ow.2 s) s

/-! ### SVU -/

/-- SVU counts one output frame end of a survey (R146). -/
def surveyCount (v : Survey) : Survey :=
  match v.state with
  | .running =>
    { v with framesLeft := v.framesLeft - 1, state := if v.framesLeft ≤ 1 then .done else .running }
  | _ => v

/-- The survey part of an output frame end (R146). -/
def surveyPart (s : State) : State := if s.marked .survey then s else { s with survey := surveyCount s.survey }

/-! ### RGU -/

/-- The count part of an output frame end (R116). -/
def countPart (s : State) : State := s.setRgu { s.rgu with counter := wrapInc s.rgu.counter }

/-- RGU applies a staged raster at an output frame end (R119). -/
def applyRaster (s : State) : State :=
  match s.rgu.staged with
  | none => s
  | some r =>
    if s.rgu.genlock = .free then s.setRgu { s.rgu with raster := r, staged := none }
    else
      (s.setRgu { s.rgu with raster := r, staged := none, genlock := .acquire, goodCount := 0, badCount := 0, trim := 0,
                             nextCorr := 0, capture := none }).raiseIf (decide (s.rgu.genlock = .locked)) .lockChange

/-- The raster part of an output frame end (R119). Where RGU has taken its genlock work of this output frame end as a step of its own,
no raster was staged then; one staged since was staged after RGU's output frame end, and is applied at the following one (R118, log 23). -/
def rasterPart (s : State) : State := if s.marked .genlock then s else applyRaster s

/-- The phase error of a capture at tick `p` of a frame of length `l` (R122). -/
def phaseError (l p : Nat) : Int := if p ≤ l / 2 then p else (p : Int) - l

/-- c and T for the next frame, from a used capture (R123). -/
def corrected (g : GenlockState) (e trim : Int) : Int × Int :=
  match g with
  | .free => (0, 0)
  | .acquire => (clampTo Config.wideClamp (e.tdiv 4), trim)
  | _ => (clampTo Config.narrowClamp (e.tdiv 32), clampTo Config.wideClamp (trim + e.tdiv 256))

/-- The genlock state and the good and bad counts after a used capture (R124). -/
def counted (g : GenlockState) (good bad : Nat) (e : Int) : GenlockState × Nat × Nat :=
  match g with
  | .free => (.free, good, bad)
  | .acquire => if e.natAbs ≤ 2200 then (if 4 ≤ good + 1 then (.track, 0, 0) else (.acquire, good + 1, bad)) else (.acquire, 0, bad)
  | .track => if e.natAbs ≤ 64 then (if 8 ≤ good + 1 then (.locked, 0, 0) else (.track, good + 1, bad)) else (.track, 0, bad)
  | .locked => if 512 < e.natAbs then (if 2 ≤ bad + 1 then (.track, 0, 0) else (.locked, good, bad + 1)) else (.locked, good, 0)

/-- Whether a move of the genlock state sets LOCK_CHANGE (R124, R166): it enters or leaves LOCKED. -/
def lockChanges (g g' : GenlockState) : Bool := decide (g ≠ g' ∧ (g = .locked ∨ g' = .locked))

/-- RGU's genlock work at an output frame end (R123, R124). While a staged raster waits for its application at the same output
frame end, the capture does not become the last used e (R119). -/
def genlockWork (s : State) : State :=
  let g := s.rgu
  match g.genlock, g.capture with
  | .free, _ => s.setRgu { g with nextCorr := 0, trim := 0, capture := none }
  | _, none => s.setRgu { g with nextCorr := 0, goodCount := 0, badCount := 0 }
  | st, some e =>
    (s.setRgu { g with
      nextCorr := (corrected st e g.trim).1
      trim := (corrected st e g.trim).2
      lastE := if g.staged.isSome then g.lastE else some e
      capture := none
      genlock := (counted st g.goodCount g.badCount e).1
      goodCount := (counted st g.goodCount g.badCount e).2.1
      badCount := (counted st g.goodCount g.badCount e).2.2 }).raiseIf
        (lockChanges st (counted st g.goodCount g.badCount e).1) .lockChange

/-- The genlock part of an output frame end (R123, R124). -/
def genlockPart (s : State) : State := if s.marked .genlock then s else genlockWork s

/-! ### The output frame end and the output frame start -/

/-- The work of one part of an output frame end. -/
def framePart : FrameEndPart → State → State
  | .silence => silencePart
  | .selection => selectionPart
  | .swap => swapPart
  | .transitions => transitionPart
  | .lists => listPart
  | .freezes => freezePart
  | .survey => surveyPart
  | .count => countPart
  | .raster => rasterPart
  | .genlock => genlockPart

/-- The parts in the order in which R115 lists their blocks. -/
def listedParts : List FrameEndPart :=
  [.selection, .silence, .swap, .transitions, .lists, .freezes, .survey, .count, .raster, .genlock]

/-- An order in which each part stands once: the parts of `order`, each at its first place, then the others as R115 lists
them (log 6). -/
def completeOrder (order : List FrameEndPart) : List FrameEndPart :=
  (order ++ listedParts).foldl (fun done p => if p ∈ done then done else done ++ [p]) []

/-- The end of the frame that was running: no frame runs until the output frame start, its last pixels have been sent, and what was
held for this output frame end is dropped (R45, R73, R115). -/
def closeFrame (s : State) : State :=
  { s.setRgu { s.rgu with scan := .between, tick := s.rgu.length - 1 } with
    fmc := Fmc.reset, samples := Vector.replicate 4 none
    former := Vector.replicate 4 (Vector.replicate 8 none), early := [] }

/-- The output frame end: each block takes it, in the given order (R115). -/
def frameEnd (order : List FrameEndPart) (s : State) : State :=
  closeFrame ((completeOrder order).foldl (fun s p => framePart p s) s)

/-- c of a frame that begins, after the blanking floor (R123). -/
def flooredCorr (r : Raster) (trim corr : Int) : Int := max corr (Config.blankingFloor - r.blanking - trim)

/-- RGU fixes the c and L of the frame that begins, from the raster in force, T and c (R114, R115, R123). -/
def fixFrame (g : Rgu) : Rgu :=
  let c := flooredCorr g.raster g.trim g.nextCorr
  { g with scan := .running, tick := 0, corr := c, length := (g.raster.nominal + g.trim + c).toNat }

/-- The output frame start (R115): RGU fixes the frame, then CMP latches its plans. -/
def frameStart (s : State) : State := latchPlans (s.setRgu (fixFrame s.rgu))

/-- One raster tick in which no command is taken (log 1): the tick position moves on within the running frame, or round the
black frames of the power-on fill (R117). The last tick's end is the command OUTPUT_FRAME_END. -/
def idleTick (s : State) : State :=
  match s.rgu.scan with
  | .running => if s.rgu.tick + 1 < s.rgu.length then moveTick (s.rgu.tick + 1) s else s
  | .fill => s.setRgu { s.rgu with tick := (s.rgu.tick + 1) % s.rgu.length }
  | .between => s

end Sys2Proof.Machine
end

