-- ==== Sys2Proof/Machine/Cues.lean ====
section
/-! DEFINITION. The cue unit's commands: TIMEBASE, CUESET, CUEDROP (spec 9). -/

namespace Sys2Proof.Machine

/-- A match field that is absent matches any value (R151). -/
def fieldMatches (field : Option Nat) (value : Nat) : Bool :=
  match field with
  | none => true
  | some n => decide (n = value)

/-- An entry matches a clock (R151). -/
def Cue.matchesClock (c : Cue) (t : Clock) : Bool :=
  fieldMatches c.weekday t.weekday && fieldMatches c.hour t.hour && fieldMatches c.minute t.minute
    && fieldMatches c.second t.second && fieldMatches c.frame t.frame

/-- Takes a cue's action (R153, R154). -/
def takeAction (a : CueAction) (s : State) : State :=
  match a with
  | .recall n mask => forOutputs mask (recallInto n) s
  | .mode m mask => forOutputs mask (setMode m) s

/-- An entry's state after an evaluation (R152): empty if it fired and is ONCE; its matching flag set if it matched. -/
def Cue.evaluated (c : Cue) (t : Clock) : Option Cue :=
  if c.matchesClock t && !c.matching && decide (c.mode = .once) then none
  else some { c with matching := c.matchesClock t }

/-- The evaluation of one entry (R152). -/
def evaluateCue (t : Clock) (s : State) (i : Fin 16) : State :=
  match s.cue i with
  | none => s
  | some c =>
    let fired := if c.matchesClock t && !c.matching then (takeAction c.action s).raise .cueFired else s
    fired.setCue i (c.evaluated t)

/-- A valid TIMEBASE (R150, R152): the house clock is set, then the entries are evaluated in index order. -/
def setClock (t : Clock) (s : State) : State := (List.finRange 16).foldl (evaluateCue t) { s with clock := some t }

/-- What CUE does with a TIMEBASE (R150). -/
def takeTimebase (weekday hour minute second frame : Byte) (s : State) : State :=
  match readClock weekday hour minute second frame with
  | none => s
  | some t => setClock t s

/-- TIMEBASE (R150, R152, R153, R154). -/
def execTimebase (weekday hour minute second frame : Byte) (s : State) : Result :=
  onForwarded (takeTimebase weekday hour minute second frame) s

/-- The mark for an entry that matches the clock, 255 while the clock is unset (§11.6). -/
def matchByte (c : Cue) (clock : Option Clock) : Byte :=
  match clock with
  | none => 255#8
  | some t => flagByte (c.matchesClock t)

/-- What CUESET answers (R156). -/
def cuesetAnswer (entry : Byte) (raw : RawCue) (s : State) : Answer :=
  match readIndex 16 entry, readCue raw with
  | some c, some x =>
    { state := s.setCue c (some x), code := .done, result := [flagByte (s.cue c).isSome, matchByte x s.clock] }
  | _, _ => refuse s .range

/-- CUESET (R156). -/
def execCueset (q : ReqHead) (entry : Byte) (raw : RawCue) (s : State) : Result := onEither q 21 (cuesetAnswer entry raw) s

/-- What CUEDROP answers (R157). -/
def cuedropAnswer (entry : Byte) (s : State) : Answer :=
  match readIndex 16 entry with
  | some c => { state := s.setCue c none, code := .done, result := [flagByte (s.cue c).isSome] }
  | none => refuse s .range

/-- CUEDROP (R157). -/
def execCuedrop (q : ReqHead) (entry : Byte) (s : State) : Result := onEither q 22 (cuedropAnswer entry) s

end Sys2Proof.Machine
end

