-- ==== Sys2Proof/Machine/Frames.lean ====
section
/-! DEFINITION. The raster's events: the output frame end, the output frame start, and parts of an output frame end taken as steps
of their own (R115, R66, R78). -/

namespace Sys2Proof.Machine

/-- OUTPUT_FRAME_END (R115): only a frame that runs has an end. -/
def execOutputFrameEnd (order : List FrameEndPart) (s : State) : Result :=
  .next (if s.rgu.scan = .running then frameEnd order s else s)

/-- OUTPUT_FRAME_START (R115): it follows an output frame end. -/
def execOutputFrameStart (s : State) : Result := .next (if s.rgu.scan = .between then frameStart s else s)

/-- TRANSITION_END (R78): TXU takes the output frame end for a transition that it ends, as a step of its own (log 5). -/
def execTransitionEnd (o : Fin 4) (w : Fin 8) (s : State) : Result :=
  .next (if s.rgu.scan = .running ∧ s.marked (.transition o w) = false ∧ (s.transition o w).lastFrame then
    (s.setTransition o w .idle).mark (.transition o w) else s)

/-- STM's silence count takes store `i` from one of the source states `before` to the state `after`: a frame runs, STM has not taken
this output frame end for the store, and the store is bound. -/
def silenceDue (i : Fin 8) (before : List SourceState) (after : SourceState) (s : State) : Bool :=
  decide (s.rgu.scan = .running) && !s.marked (.silence i) && (s.store i).binding.isSome
    && decide ((s.store i).state ∈ before)
    && decide (silenceState s.limits (s.store i).state (silenceNext s.limits.loss (s.store i).silence) = after)

/-- STM takes the output frame end for one store, as a step of its own, if its count moves the store so (log 5). -/
def silenceMove (i : Fin 8) (before : List SourceState) (after : SourceState) (s : State) : State :=
  if silenceDue i before after s then (countSilence i s).mark (.silence i) else s

/-- SOURCE_STALE (R66): a LIVE store's silence counter reaches the hold limit. -/
def execSourceStale (i : Fin 8) (s : State) : Result := .next (silenceMove i [.live] .stale s)

/-- SOURCE_LOST (R66): a store's silence counter reaches the loss limit. -/
def execSourceLost (i : Fin 8) (s : State) : Result := .next (silenceMove i [.live, .stale] .lost s)

end Sys2Proof.Machine
end

