-- ==== Sys2Proof/Machine/Genlock.lean ====
section
/-! DEFINITION. The raster and genlock unit's commands: RASTER, GENLOCK, and the moves of the genlock state (spec 7). -/

namespace Sys2Proof.Machine

/-- What RASTER answers (R118): the raster carried is staged. -/
def rasterAnswer (activeWidth activeHeight totalWidth totalHeight : Half) (background : Word) (s : State) : Answer :=
  match readRaster activeWidth activeHeight totalWidth totalHeight background with
  | none => refuse s .range
  | some r =>
    { state := s.setRgu { s.rgu with staged := some r }, code := .armed
      result := [flagByte s.rgu.staged.isSome, s.rgu.genlock.number] }

/-- RASTER (R118). -/
def execRaster (q : ReqHead) (activeWidth activeHeight totalWidth totalHeight : Half) (background : Word) (s : State) :
    Result :=
  onEither q 4 (rasterAnswer activeWidth activeHeight totalWidth totalHeight background) s

/-- GENLOCK none (R120). -/
def genlockNone (s : State) : State :=
  (s.setRgu { s.rgu with genlock := .free, reference := none, trim := 0, nextCorr := 0, capture := none, lastE := none,
                          goodCount := 0, badCount := 0 }).raiseIf (decide (s.rgu.genlock = .locked)) .lockChange

/-- GENLOCK to a source whose store is LIVE (R120). -/
def genlockTo (src : Fin 16) (s : State) : State :=
  (s.setRgu { s.rgu with genlock := .acquire, reference := some src, capture := none, goodCount := 0, badCount := 0 }).raiseIf
    (decide (s.rgu.genlock = .locked)) .lockChange

/-- What GENLOCK answers (R120); the result carries the genlock state after the request. -/
def genlockAnswer (source : Byte) (s : State) : Answer :=
  match readReference source with
  | none => refuse s .range
  | some none => { state := genlockNone s, code := .done, result := [(genlockNone s).rgu.genlock.number] }
  | some (some src) =>
    if s.sourceLive src then { state := genlockTo src s, code := .done, result := [(genlockTo src s).rgu.genlock.number] }
    else { state := s, code := .notLive, result := [s.rgu.genlock.number] }

/-- GENLOCK (R120). -/
def execGenlock (q : ReqHead) (source : Byte) (s : State) : Result := onEither q 23 (genlockAnswer source) s

/-- The genlock work of the coming output frame end moves the genlock state from one state to another (R124): a frame runs, no
staged raster waits, and RGU has not taken this output frame end. -/
def genlockDue (g g' : GenlockState) (s : State) : Bool :=
  decide (s.rgu.scan = .running) && !s.marked .genlock && s.rgu.staged.isNone && decide (s.rgu.genlock = g)
    && decide ((genlockWork s).rgu.genlock = g')

/-- RGU takes its genlock work of the output frame end as a step of its own, when it moves the state so (log 5). -/
def genlockMove (g g' : GenlockState) (s : State) : State :=
  if genlockDue g g' s then (genlockWork s).mark .genlock else s

/-- GENLOCK_TRACK (R124): in ACQUIRE the good count reaches 4. -/
def execGenlockTrack (s : State) : Result := .next (genlockMove .acquire .track s)

/-- GENLOCK_LOCKED (R124): in TRACK the good count reaches 8. -/
def execGenlockLocked (s : State) : Result := .next (genlockMove .track .locked s)

/-- GENLOCK_UNLOCKED (R124): in LOCKED the bad count reaches 2. -/
def execGenlockUnlocked (s : State) : Result := .next (genlockMove .locked .track s)

end Sys2Proof.Machine
end

