-- ==== Sys2Proof/Machine/Layout.lean ====
section
/-! DEFINITION. The requests to the layout unit (spec 1). -/

namespace Sys2Proof.Machine

/-- What OUTMODE answers (R19). -/
def outmodeAnswer (mask mode : Byte) (s : State) : Answer :=
  match readMask mask, readMode mode with
  | some m, some d => { state := forOutputs m (setMode d) s, code := .done }
  | _, _ => refuse s .range

/-- OUTMODE (R19). -/
def execOutmode (q : ReqHead) (mask mode : Byte) (s : State) : Result := onEither q 5 (outmodeAnswer mask mode) s

/-- Writes an edited pending bank and sets pending-dirty (R4). -/
def editPending (o : Fin 4) (l : List WindowRecord) (s : State) : State :=
  s.setOutput o { s.output o with pending := l, dirty := true }

/-- What a WINSET of a record in range does to an output that is not armed (R5, R7). -/
def placeWindow (o : Fin 4) (r : WindowRecord) (s : State) : Answer :=
  let l := (s.output o).pending
  if (findWindow l r.number).isSome then
    { state := editPending o (replaceWindow l r) s, code := .done
      result := [byteOf (windowPosition l r.number), byteOf l.length] }
  else if Config.listRoom ≤ l.length then refuse s .full
  else
    { state := editPending o (l ++ [r]) s, code := .done, result := [byteOf l.length, byteOf (l.length + 1)] }

/-- What WINSET answers, its checks in the order of R5. -/
def winsetAnswer (output : Byte) (raw : RawWindow) (s : State) : Answer :=
  match readIndex 4 output, readIndex 8 raw.number with
  | some o, some _ =>
    if (s.output o).armed then refuse s .staged
    else
      match readWindow raw with
      | none => refuse s .range
      | some r => placeWindow o r s
  | _, _ => refuse s .range

/-- WINSET (R5, R6, R7). -/
def execWinset (q : ReqHead) (output : Byte) (raw : RawWindow) (s : State) : Result :=
  onAddressed q 9 (winsetAnswer output raw) s

/-- What WINDROP answers (R5, R8). -/
def windropAnswer (output window : Byte) (s : State) : Answer :=
  match readIndex 4 output, readIndex 8 window with
  | some o, some w =>
    if (s.output o).armed then refuse s .staged
    else if (findWindow (s.output o).pending w).isNone then refuse s .absent
    else
      let l := dropWindow (s.output o).pending w
      { state := editPending o l s, code := .done, result := [byteOf l.length] }
  | _, _ => refuse s .range

/-- WINDROP (R5, R8). -/
def execWindrop (q : ReqHead) (output window : Byte) (s : State) : Result :=
  onAddressed q 10 (windropAnswer output window) s

/-- What WINMOVE answers (R5, R9). -/
def winmoveAnswer (output window target : Byte) (s : State) : Answer :=
  match readIndex 4 output, readIndex 8 window, readIndex 16 target with
  | some o, some w, some p =>
    if (s.output o).armed then refuse s .staged
    else
      match findWindow (s.output o).pending w with
      | none => refuse s .absent
      | some r =>
        let rest := dropWindow (s.output o).pending w
        { state := editPending o (insertWindow rest p.val r) s, code := .done, result := [byteOf (min p.val rest.length)] }
  | _, _, _ => refuse s .range

/-- WINMOVE (R5, R9). -/
def execWinmove (q : ReqHead) (output window target : Byte) (s : State) : Result :=
  onAddressed q 11 (winmoveAnswer output window target) s

/-- What WINREAD answers (R5, R10). -/
def winreadAnswer (output window bank : Byte) (s : State) : Answer :=
  match readIndex 4 output, readIndex 8 window, readBank bank with
  | some o, some w, some b =>
    let l := (s.output o).bank b
    match findWindow l w with
    | none => refuse s .absent
    | some r =>
      { state := s, code := .done, result := windowBytes r ++ [byteOf (windowPosition l w), byteOf l.length] }
  | _, _, _ => refuse s .range

/-- WINREAD (R10). -/
def execWinread (q : ReqHead) (output window bank : Byte) (s : State) : Result :=
  onAddressed q 12 (winreadAnswer output window bank) s

/-- What DISCARD answers (R5, R11). -/
def discardAnswer (output : Byte) (s : State) : Answer :=
  match readIndex 4 output with
  | none => refuse s .range
  | some o =>
    if (s.output o).armed then refuse s .staged
    else
      { state := s.setOutput o { s.output o with pending := (s.output o).active, dirty := false }, code := .done }

/-- DISCARD (R11). -/
def execDiscard (q : ReqHead) (output : Byte) (s : State) : Result := onAddressed q 13 (discardAnswer output) s

/-- Arms the bank swap of one output (R12). -/
def armOutput (o : Fin 4) (s : State) : State := s.setOutput o { s.output o with armed := true }

/-- What COMMIT answers (R12): ARMED, or DONE for a mask that names no output. -/
def commitAnswer (mask : Byte) (s : State) : Answer :=
  match readMask mask with
  | none => refuse s .range
  | some m => { state := forOutputs m armOutput s, code := if m = 0#4 then .done else .armed }

/-- COMMIT (R12). -/
def execCommit (q : ReqHead) (mask : Byte) (s : State) : Result := onEither q 14 (commitAnswer mask) s

/-- What PRESAVE answers (R16). -/
def presaveAnswer (output preset : Byte) (s : State) : Answer :=
  match readIndex 4 output, readIndex 8 preset with
  | some o, some n =>
    { state := s.setOutput o { s.output o with presets := tset (s.output o).presets n (some (s.output o).pending) }
      code := .done }
  | _, _ => refuse s .range

/-- PRESAVE (R16). -/
def execPresave (q : ReqHead) (output preset : Byte) (s : State) : Result := onAddressed q 15 (presaveAnswer output preset) s

/-- What an addressed RECALL answers (R17). -/
def recallAnswer (mask preset : Byte) (s : State) : Answer :=
  match readMask mask, readIndex 8 preset with
  | some m, some n =>
    if m = 0#4 then { state := s, code := .done }
    else if (maskOutputs m).any (fun o => ((s.output o).preset n).isNone) then refuse s .absent
    else { state := forOutputs m (recallInto n) s, code := .armed }
  | _, _ => refuse s .range

/-- A broadcast RECALL, part by part (R18): the outputs whose preset is absent are left alone. -/
def recallAll (mask preset : Byte) (s : State) : State :=
  match readMask mask, readIndex 8 preset with
  | some m, some n => forOutputs m (recallInto n) s
  | _, _ => s

/-- RECALL (R17, R18). -/
def execRecall (q : ReqHead) (mask preset : Byte) (s : State) : Result :=
  onRequest q 16 (recallAnswer mask preset) (recallAll mask preset) s

end Sys2Proof.Machine
end

