-- ==== Sys2Proof/Machine/Lists.lean ====
section
/-! DEFINITION. The rotation unit's commands: ROTSET and a list's advance (spec 6). -/

namespace Sys2Proof.Machine

/-- The result of ROTSET (R105, §11.6), from the list as it stood. -/
def rotsetResult (l : RotationList) (st : StagedList) : List Byte :=
  [flagByte l.staged.isSome, if l.entries = [] then 255#8 else byteOf l.position] ++ natHalf l.counter ++ natHalf st.dwell

/-- What ROTSET answers (R104, R105): the list carried is staged. -/
def rotsetAnswer (list count : Byte) (entries : List Byte) (dwell : Half) (style duration : Byte) (s : State) : Answer :=
  match readIndex 4 list, readStagedList count entries dwell style duration with
  | some r, some st =>
    { state := s.setList r { s.list r with staged := some st }, code := .armed, result := rotsetResult (s.list r) st }
  | _, _ => refuse s .range

/-- ROTSET (R104, R105). -/
def execRotset (q : ReqHead) (list count : Byte) (entries : List Byte) (dwell : Half) (style duration : Byte) (s : State) :
    Result :=
  onEither q 20 (rotsetAnswer list count entries dwell style duration) s

/-- A list's dwell counter reaches 0 at the coming output frame end (R107): the list holds entries, no ROTSET is staged, and
ROU has not taken this output frame end for the list. -/
def listDue (r : Fin 4) (s : State) : Bool :=
  decide (s.rgu.scan = .running) && !s.marked (.list r) && (s.list r).staged.isNone && decide ((s.list r).entries ≠ [])
    && decide ((s.list r).counter ≤ 1)

/-- LIST_ADVANCE (R107, R108, R109): ROU takes the output frame end for a list whose dwell runs out, as a step of its own
(log 5). -/
def execListAdvance (r : Fin 4) (s : State) : Result :=
  .next (if listDue r s then (advanceList r s).mark (.list r) else s)

end Sys2Proof.Machine
end

