-- ==== Sys2Proof/Machine/Pictures.lean ====
section
/-! DEFINITION. Picture traffic: FRAME-OPEN, PIC and FRAME-CLOSE cells, and the grants of frame memory to the write queue
(spec 3; R121, R144). -/

namespace Sys2Proof.Machine

/-! ### SVU and RGU -/

/-- A source id of a picture cell; above 15 it matches no store and no survey record (R177). -/
def cellSource (source : Byte) : Option (Fin 16) := readIndex 16 source

/-- SVU counts a cell into the record of its source while a survey runs (R144). -/
def surveyCell (src : Fin 16) (f : SurveyRecord → SurveyRecord) (s : State) : State :=
  if s.survey.state = .running then
    { s with survey := { s.survey with records := tset s.survey.records src (f (tget s.survey.records src)) } }
  else s

/-- A FRAME-OPEN seen by SVU (R144). -/
def SurveyRecord.sawOpen (width height : Nat) (tag : Byte) (r : SurveyRecord) : SurveyRecord :=
  { r with opens := satInc r.opens, last := some ⟨width, height, tag⟩ }

/-- A PIC seen by SVU (R144). -/
def SurveyRecord.sawPic (r : SurveyRecord) : SurveyRecord := { r with pics := satInc r.pics }

/-- The raster reaches the tick at which a cell arrives (R113, log 7): no tick is taken back, and none past the frame's last. -/
def reachTick (tick : Nat) (s : State) : State :=
  if s.rgu.scan = .running ∧ s.rgu.tick < min tick (s.rgu.length - 1) then moveTick (min tick (s.rgu.length - 1)) s else s

/-- The tick position of an arrival within the frame it falls in (R121): 0 in the new frame when the output frame end has been
taken. -/
def arrivalTick (s : State) : Nat :=
  if s.rgu.scan = .running ∧ s.marked .genlock = false then s.rgu.tick else 0

/-- RGU captures a FRAME-OPEN of the reference source while genlock is not FREE (R121, R122). -/
def capture (src : Fin 16) (s : State) : State :=
  if s.rgu.genlock ≠ .free ∧ s.rgu.reference = some src then
    s.setRgu { s.rgu with capture := some (phaseError s.rgu.length (arrivalTick s)) }
  else s

/-! ### STM -/

/-- The arrival of a cell of a bound source: the silence counter returns to 0 (R54). -/
def Store.arrival (st : Store) : Store := { st with silence := 0 }

/-- The store's FILLING slot (R54: at most one). -/
def Store.fillingSlot (st : Store) : Option (Fin 3) := (List.finRange 3).find? (fun k => (st.slot k).filling)

/-- A stray cell (R54, R57, R58, R70). -/
def Store.strayCell (st : Store) : Store := { st with stray := satInc st.stray }

/-- A slot record made DAMAGED (R52); a slot that leaves COMPLETE would lose its completion number. -/
def SlotRecord.damage (r : SlotRecord) : SlotRecord :=
  { r with frame := r.frame.map (fun f => { f with phase := .damaged }) }

/-- Slot `k` becomes DAMAGED, counted (R70). -/
def Store.damageSlot (st : Store) (k : Fin 3) : Store :=
  { st.setSlot k (st.slot k).damage with damaged := satInc st.damaged }

/-- Damages a slot and sets FRAME_DAMAGED (R55, R57, R58). -/
def damageFrame (i : Fin 8) (k : Fin 3) (s : State) : State := (s.setStore i ((s.store i).damageSlot k)).raise .frameDamaged

/-- A slot may be chosen for a new frame (R55): not selected, not pinned, neither FILLING nor CLOSING. -/
def SlotRecord.candidate (r : SlotRecord) : Bool := !r.selected && r.pins == 0 && !r.filling && !r.closing

/-- A candidate in COMPLETE that is not the store's newest (R55). -/
def Store.replaceable (st : Store) (k : Fin 3) : Bool :=
  (st.slot k).candidate && (st.slot k).number?.isSome && decide (st.newest ≠ some k)

/-- The candidate of lowest completion number among the COMPLETE slots that are not the newest (R55). -/
def Store.oldest (st : Store) : Option (Fin 3) :=
  (List.finRange 3).find? (fun k => st.replaceable k && (List.finRange 3).all (fun j =>
    !st.replaceable j || decide (((st.slot k).number?.getD 0) ≤ ((st.slot j).number?.getD 0))))

/-- The slot STM chooses for a new frame (R55), in its order of preference: an EMPTY or DAMAGED candidate; the oldest COMPLETE
candidate but the newest; the newest COMPLETE, whose frame is then lost (the mark is true). -/
def Store.choice (st : Store) : Option (Fin 3 × Bool) :=
  match (List.finRange 3).find? (fun k => (st.slot k).candidate && (st.slot k).spare) with
  | some k => some (k, false)
  | none =>
    match st.oldest with
    | some k => some (k, false)
    | none =>
      match st.newest with
      | some k => if (st.slot k).candidate then some (k, true) else none
      | none => none

/-- A drop, counted (R55, R56, R70). -/
def Store.dropFrame (st : Store) : Store := { st with dropped := satInc st.dropped }

/-- The record of a slot chosen for a new frame (R55): its former frame and completion number go. -/
def SlotRecord.begin (r : SlotRecord) (tag : Byte) (width height cells : Nat) : SlotRecord :=
  { r with frame := some ⟨.filling, tag, width, height, cells, 0⟩ }

/-- Step 1 of R55: a FILLING slot has lost its close and becomes DAMAGED. -/
def endUnclosed (i : Fin 8) (s : State) : State :=
  match (s.store i).fillingSlot with
  | some k => damageFrame i k s
  | none => s

/-- Step 2 of R55: the dropping mark is cleared. -/
def clearDropping (i : Fin 8) (s : State) : State := s.setStore i { s.store i with dropping := false }

/-- Steps 3 to 5 of R55, and R56: a slot is chosen and becomes FILLING, or the frame is dropped whole. -/
def chooseSlot (i : Fin 8) (tag : Byte) (width height cells : Nat) (s : State) : State :=
  let st := s.store i
  match st.choice with
  | some (k, lost) =>
    let chosen := (if lost then st.dropFrame else st).setSlot k ((st.slot k).begin tag width height cells)
    (s.setStore i chosen).raiseIf lost .frameDropped
  | none => (s.setStore i { st.dropFrame with dropping := true }).raise .frameDropped

/-- The ranges of a FRAME-OPEN's fields (R54). -/
def openInRange (width height cells : Nat) : Bool :=
  decide (16 ≤ width ∧ width ≤ 1920 ∧ 16 ≤ height ∧ height ≤ 1200 ∧ 1 ≤ cells ∧ cells ≤ 16383)

/-- STM takes a FRAME-OPEN of store `i`'s source (R54, R55, R56). -/
def storeOpen (i : Fin 8) (tag : Byte) (width height cells : Nat) (s : State) : State :=
  let s := s.setStore i (s.store i).arrival
  if openInRange width height cells then chooseSlot i tag width height cells (clearDropping i (endUnclosed i s))
  else s.setStore i (s.store i).strayCell

/-- A block's work for the store bound to a source, if there is one (R54). -/
def forStore (src : Fin 16) (f : Fin 8 → State → State) (s : State) : State :=
  match s.storeOf src with
  | none => s
  | some i => f i s

/-- What the blocks do with a FRAME-OPEN (R54, R121, R133, R144). -/
def takeOpen (source tag : Byte) (width height cells : Half) (tick : Nat) (s : State) : State :=
  let s := reachTick tick s
  match cellSource source with
  | none => s
  | some src =>
    forStore src (fun i => storeOpen i tag width.toNat height.toNat cells.toNat)
      (capture src (surveyCell src (SurveyRecord.sawOpen width.toNat height.toNat tag) s))

/-- FRAME_OPEN (R54, R55, R56). -/
def execFrameOpen (source tag : Byte) (width height cells : Half) (tick : Nat) (s : State) : Result :=
  onForwarded (takeOpen source tag width height cells tick) s

/-- The ranges of a PIC's fields (R54). -/
def picInRange (line first count : Nat) : Bool := decide (line ≤ 1199 ∧ first ≤ 1919 ∧ 1 ≤ count ∧ count ≤ 240)

/-- The frame of a store's FILLING slot, if it carries a cell's tag (R57, R58). -/
def Store.matching (st : Store) (tag : Byte) : Option (Fin 3 × FrameInfo) :=
  match st.fillingSlot with
  | none => none
  | some k =>
    match (st.slot k).frame with
    | some f => if f.tag = tag then some (k, f) else none
    | none => none

/-- The write queue holds 48 entries (R57, R58, R59). -/
def queueFull (s : State) : Bool := decide (Config.queueRoom ≤ s.queue.length)

/-- An arrival that finds the write queue full (R57, R58). -/
def overflow (i : Fin 8) (k : Fin 3) (s : State) : State := (damageFrame i k s).raise .queueOverflow

/-- A slot record with its frame's fields changed. -/
def SlotRecord.withFrame (r : SlotRecord) (f : FrameInfo) : SlotRecord := { r with frame := some f }

/-- A PIC accepted into the write queue (R57). -/
def acceptPic (i : Fin 8) (k : Fin 3) (f : FrameInfo) (line first : Nat) (pixels : List Colour) (s : State) : State :=
  { s.setStore i ((s.store i).setSlot k (((s.store i).slot k).withFrame { f with next := f.next + 1 })) with
    queue := s.queue ++ [.pic i k line first pixels] }

/-- A PIC of a bound store whose dropping mark is clear and whose fields are in range (R57). -/
def matchPic (i : Fin 8) (tag : Byte) (sequence line first : Nat) (pixels : List Colour) (s : State) : State :=
  match (s.store i).matching tag with
  | none => s.setStore i (s.store i).strayCell
  | some (k, f) =>
    if sequence ≠ f.next ∨ f.cells ≤ sequence then damageFrame i k s
    else if queueFull s then overflow i k s
    else acceptPic i k f line first pixels s

/-- STM takes a PIC of store `i`'s source (R54, R56, R57). -/
def storePic (i : Fin 8) (tag : Byte) (sequence line first count : Nat) (pixels : List Colour) (s : State) : State :=
  let s := s.setStore i (s.store i).arrival
  if (s.store i).dropping then s
  else if picInRange line first count then matchPic i tag sequence line first pixels s
  else s.setStore i (s.store i).strayCell

/-- The pixels a PIC carries: the first `count` groups of its payload (R176); the payload is 960 bytes. -/
def picPixels (count : Nat) (pixels : List Word) : List Colour :=
  (List.range count).map (fun k => readColour (pixels.getD k 0#32))

/-- What the blocks do with a PIC (R54, R133, R144). -/
def takePic (source tag : Byte) (sequence line first : Half) (count : Byte) (pixels : List Word) (s : State) : State :=
  match cellSource source with
  | none => s
  | some src =>
    forStore src
      (fun i => storePic i tag sequence.toNat line.toNat first.toNat count.toNat (picPixels count.toNat pixels))
      (surveyCell src SurveyRecord.sawPic s)

/-- PIC (R54, R57). -/
def execPic (source tag : Byte) (sequence line first : Half) (count : Byte) (pixels : List Word) (s : State) : Result :=
  onForwarded (takePic source tag sequence line first count pixels) s

/-- A FRAME-CLOSE accepted into the write queue (R58). -/
def acceptClose (i : Fin 8) (k : Fin 3) (f : FrameInfo) (s : State) : State :=
  { s.setStore i ((s.store i).setSlot k (((s.store i).slot k).withFrame { f with phase := .closing })) with
    queue := s.queue ++ [.close i k] }

/-- A FRAME-CLOSE of a bound store whose dropping mark is clear (R58). -/
def matchClose (i : Fin 8) (tag : Byte) (cells : Nat) (s : State) : State :=
  match (s.store i).matching tag with
  | none => s.setStore i (s.store i).strayCell
  | some (k, f) =>
    if cells ≠ f.next ∨ f.next ≠ f.cells then damageFrame i k s
    else if queueFull s then overflow i k s
    else acceptClose i k f s

/-- STM takes a FRAME-CLOSE of store `i`'s source (R54, R56, R58). -/
def storeClose (i : Fin 8) (tag : Byte) (cells : Nat) (s : State) : State :=
  let s := s.setStore i (s.store i).arrival
  if (s.store i).dropping then s else matchClose i tag cells s

/-- What the blocks do with a FRAME-CLOSE (R54, R133). -/
def takeClose (source tag : Byte) (cells : Half) (s : State) : State :=
  match cellSource source with
  | none => s
  | some src => forStore src (fun i => storeClose i tag cells.toNat) s

/-- FRAME_CLOSE (R54, R58). -/
def execFrameClose (source tag : Byte) (cells : Half) (s : State) : Result := onForwarded (takeClose source tag cells) s

/-! ### FMC -/

/-- FMC grants the queue's head, which leaves the queue (R46). -/
def grantHead (rest : List QueueEntry) (s : State) : State :=
  { s with queue := rest, fmc := { s.fmc with grant := some .queueHead } }

/-- PIC_WRITE (R45, R46, R60): the fetches that wait are granted first; then FMC grants the queue's head and it is a PIC write, which
leaves the queue and is written along its line. -/
def picWriteStep (s : State) : State :=
  let t := serveFetches s
  match t.arbitrate, t.queue with
  | some .queueHead, .pic i k line first pixels :: rest =>
    { grantHead rest t with memory := memWriteRun t.memory i k line first pixels }
  | _, _ => s

/-- PIC_WRITE. -/
def execPicWrite (s : State) : Result := .next (picWriteStep s)

/-- A slot record with its completion number replaced, if it is COMPLETE (R53). -/
def SlotRecord.renumber (r : SlotRecord) (n : Nat) : SlotRecord :=
  match r.frame with
  | some { phase := .complete _, tag, width, height, cells, next } =>
    { r with frame := some ⟨.complete n, tag, width, height, cells, next⟩ }
  | _ => r

/-- How many COMPLETE slots of a store are not newer than slot `k` (R53). -/
def Store.rank (st : Store) (k : Fin 3) : Nat :=
  ((List.finRange 3).filter (fun j => (st.slot j).number?.isSome && decide ((st.slot j).number?.getD 0 ≤ (st.slot k).number?.getD 0))).length

/-- The store's COMPLETE slots renumbered 1, 2, ... in the order of their completion numbers (R53). -/
def Store.renumbered (st : Store) : Store :=
  { st with
    slots := tmap (fun k r => r.renumber (st.rank k)) st.slots
    completions := ((List.finRange 3).filter (fun k => (st.slot k).number?.isSome)).length }

/-- The store's next completion: renumbered first if the counter is at its greatest value (R53). -/
def Store.readyToComplete (st : Store) : Store := if Config.completionMax ≤ st.completions then st.renumbered else st

/-- The source state after a completion (R61, R65). -/
def completedState : SourceState → SourceState
  | .unbound => .unbound
  | _ => .live

/-- Slot `k` of a store, holding frame `f`, becomes COMPLETE (R53, R61). -/
def Store.complete (st : Store) (k : Fin 3) (f : FrameInfo) : Store :=
  let st := st.readyToComplete
  { st.setSlot k ((st.slot k).withFrame { f with phase := .complete (st.completions + 1) }) with
    completions := st.completions + 1
    completed := satInc st.completed
    state := completedState st.state }

/-- STM completes a marker's slot (R61). Nothing completes from a slot that is not CLOSING (R51). -/
def completeSlot (i : Fin 8) (k : Fin 3) (s : State) : State :=
  match ((s.store i).slot k).frame with
  | some f => if f.phase = .closing then s.setStore i ((s.store i).complete k f) else s
  | none => s

/-- COMPLETION (R45, R46, R61): the fetches that wait are granted first; then FMC grants the queue's head and it is a close marker, which
leaves the queue. -/
def completionStep (s : State) : State :=
  let t := serveFetches s
  match t.arbitrate, t.queue with
  | some .queueHead, .close i k :: rest => completeSlot i k (grantHead rest t)
  | _, _ => s

/-- COMPLETION. -/
def execCompletion (s : State) : Result := .next (completionStep s)

end Sys2Proof.Machine
end

