-- ==== Sys2Proof/Machine/Report.lean ====
section
/-! DEFINITION. The requests that report: IDENT, STATUS, CLEAR, and a request of unknown code (R163, R167, R170 to R172). -/

namespace Sys2Proof.Machine

/-- The result of IDENT (R170, R177). -/
def identResult (s : State) : List Byte :=
  natHalf Config.familyCode ++ [byteOf Config.revision, addressByte s.address, 4, 8]

/-- IDENT (R170). -/
def execIdent (q : ReqHead) (s : State) : Result :=
  onAddressed q 1 (fun s => { state := s, code := .done, result := identResult s }) s

/-- A byte with bit `o` set for each output that has a property (§11.7). -/
def outputBits (s : State) (p : Output → Bool) : Byte :=
  (List.finRange 4).foldl (fun b o => if p (s.output o) then b ||| BitVec.twoPow 8 o.val else b) 0#8

/-- STATUS page 0 (R172, §11.7). -/
def statusSummary (s : State) : List Byte :=
  [s.trx.link.number, addressByte s.address, s.rgu.genlock.number,
   outputBits s (fun out => decide (out.mode = .showing)), outputBits s Output.armed]
    ++ halfBytes (conditionsHalf s.conditions) ++ [s.lastReset.number] ++ natWord s.rgu.counter ++ [s.survey.state.number]

/-- A store's armed-shared count: the FROZEN records that name it and joined an existing pin (R100). -/
def armedSharedCount (s : State) (i : Fin 8) : Nat :=
  (allWindows.filter (fun ow => match s.freeze ow.1 ow.2 with
    | .frozen j _ shared => decide (j = i) && shared
    | _ => false)).length

/-- The tag presence byte of a store's page (§11.7). -/
def tagPresence (st : Store) : Byte :=
  (List.finRange 3).foldl (fun b k => if (st.slot k).frame.isSome then b ||| BitVec.twoPow 8 k.val else b) 0#8

/-- STATUS pages 1..8: the page of a store (R71, R100, §11.7). -/
def statusStore (s : State) (i : Fin 8) : List Byte :=
  let st := s.store i
  [orAbsent st.binding, st.state.number] ++ natHalf st.silence
    ++ (List.finRange 3).map (fun k => (st.slot k).stateNumber) ++ [tagPresence st]
    ++ (List.finRange 3).map (fun k => (st.slot k).tagByte)
    ++ (List.finRange 3).map (fun k => byteOf (st.slot k).pins) ++ [orAbsent st.selectedSlot]
    ++ natHalf st.completed ++ natHalf st.dropped ++ natHalf st.damaged ++ natHalf st.stray
    ++ [byteOf (armedSharedCount s i)]

/-- STATUS page 9 (R128, §11.7). An absent last e is written as 0 (log 11). -/
def statusGenlock (s : State) : List Byte :=
  [orAbsent s.rgu.reference, flagByte s.rgu.lastE.isSome] ++ intWord (s.rgu.lastE.getD 0) ++ intHalf s.rgu.trim
    ++ intHalf s.rgu.corr ++ [byteOf s.rgu.goodCount, byteOf s.rgu.badCount]

/-- The sum of the stores' stray cell counters, saturating at 65535 (R71). -/
def straySum (s : State) : Nat := min (((List.finRange 8).map (fun i => (s.store i).stray)).sum) Config.counterMax

/-- STATUS page 10 (R148, §11.7). -/
def statusLink (s : State) : List Byte := natHalf s.trx.headerErrors ++ natHalf (straySum s)

/-- A status page (R171): none above page 10. -/
def statusPage (s : State) (page : Nat) : Option (List Byte) :=
  if page = 0 then some (statusSummary s)
  else if h : page - 1 < 8 then some (statusStore s ⟨page - 1, h⟩)
  else if page = 9 then some (statusGenlock s)
  else if page = 10 then some (statusLink s)
  else none

/-- What STATUS answers (R171). -/
def statusAnswer (page : Byte) (s : State) : Answer :=
  match statusPage s page.toNat with
  | none => refuse s .range
  | some result => { state := s, code := .done, result }

/-- STATUS (R171). -/
def execStatus (q : ReqHead) (page : Byte) (s : State) : Result := onAddressed q 2 (statusAnswer page) s

/-- What CLEAR answers (R167): the conditions as they stood, and the named ones cleared. -/
def clearAnswer (mask : Half) (s : State) : Answer where
  state := { s with conditions := clearedBy s.conditions (readConditions mask) }
  code := .done
  result := halfBytes (conditionsHalf s.conditions)

/-- CLEAR (R167). -/
def execClear (q : ReqHead) (mask : Half) (s : State) : Result := onEither q 3 (clearAnswer mask) s

/-- A request of a code the part does not know (R163); a broadcast of it is ignored (R142). -/
def execUnknownRequest (q : ReqHead) (code : Byte) (s : State) : Result :=
  onAddressed q code (fun s => refuse s .unknown) s

end Sys2Proof.Machine
end

