-- ==== Sys2Proof/Machine/Resets.lean ====
section
/-! DEFINITION. The resets of the part: RESTART, power-on and the end of its fill (R117, R173 to R175). -/

namespace Sys2Proof.Machine

/-- RGU at RESTART (R113, R117): its state takes its reset values; a frame that runs ends at the tick it has reached, and the
counter stands at 0 after the output frame end that RESTART makes. In the power-on fill, and between frames, there is no such
output frame end. -/
def restartRgu (g : Rgu) : Rgu :=
  { Rgu.reset with
    scan := if g.scan = .running then .between else g.scan
    length := g.length
    tick := g.tick }

/-- The state after RESTART's effects (R174). The blocks take the output frame end that RESTART makes with their reset state,
where it changes nothing (log 19). -/
def restarted (s : State) : State :=
  { State.reset with
    trx := { s.trx with headerErrors := 0 }
    fwd := s.fwd
    address := s.address
    memory := s.memory
    rgu := restartRgu s.rgu
    outputs := tmap (fun _ out => { Output.reset with presets := out.presets }) s.outputs
    lastReset := .restart
    freeCount := s.freeCount
    pending := s.pending }

/-- What RESTART answers (R173): the reply is formed before the reset. -/
def restartAnswer (s : State) : Answer where
  state := restarted s
  code := .done
  result := halfBytes (conditionsHalf s.conditions) ++ [s.lastReset.number]
  attention := some s.attention

/-- RESTART (R173, R174). -/
def execRestart (q : ReqHead) (s : State) : Result := onEither q 26 restartAnswer s

/-- POWER_ON (R175): every block takes its power-on values, and the fill of frame memory with black begins (R117, log 10). -/
def execPowerOn (s : State) : Result := .next { State.reset with freeCount := s.freeCount, pending := s.pending }

/-- POWER_ON_FILL_END (R117): RGU makes the first output frame start. -/
def execPowerOnFillEnd (s : State) : Result := .next (if s.rgu.scan = .fill then frameStart s else s)

end Sys2Proof.Machine
end

