-- ==== Sys2Proof/Machine/Stores.lean ====
section
/-! DEFINITION. The requests to the store manager: SILENCE, SUBSCRIBE, RELEASE (R49 to R51, R69). -/

namespace Sys2Proof.Machine

/-- What SILENCE answers (R69). -/
def silenceAnswer (hold : Byte) (loss : Half) (s : State) : Answer :=
  match readRange 1 255 hold.toNat, readRange 2 4095 loss.toNat with
  | some h, some l => if h < l then { state := { s with limits := ⟨h, l⟩ }, code := .done } else refuse s .range
  | _, _ => refuse s .range

/-- SILENCE (R69). -/
def execSilence (q : ReqHead) (hold : Byte) (loss : Half) (s : State) : Result := onEither q 6 (silenceAnswer hold loss) s

/-- A store that has just been bound to a source (R49). -/
def Store.bound (src : Fin 16) : Store := { Store.reset with binding := some src, state := .waiting }

/-- A store that has just been released (R50): its four counters and its completion counter keep their values. -/
def Store.released (st : Store) : Store :=
  { st with binding := none, state := .unbound, silence := 0, slots := Vector.replicate 3 SlotRecord.reset, dropping := false }

/-- A slot of a store is pinned. -/
def Store.pinned (st : Store) : Bool := st.pinnedSlot.isSome

/-- What SUBSCRIBE answers, its checks in the order of R49. -/
def subscribeAnswer (store source : Byte) (s : State) : Answer :=
  match readIndex 8 store, readIndex 16 source with
  | some i, some src =>
    if (List.finRange 8).any (fun j => j ≠ i && (s.store j).binding = some src) then refuse s .duplicate
    else if (s.store i).binding.isSome && (s.store i).pinned then refuse s .pinned
    else { state := (endBinding i s).setStore i (Store.bound src), code := .done }
  | _, _ => refuse s .range

/-- SUBSCRIBE (R49, R51). -/
def execSubscribe (q : ReqHead) (store source : Byte) (s : State) : Result :=
  onAddressed q 7 (subscribeAnswer store source) s

/-- What RELEASE answers (R50). -/
def releaseAnswer (store : Byte) (s : State) : Answer :=
  match readIndex 8 store with
  | none => refuse s .range
  | some i =>
    if (s.store i).binding.isNone then refuse s .absent
    else if (s.store i).pinned then refuse s .pinned
    else { state := (endBinding i s).setStore i (s.store i).released, code := .done }

/-- RELEASE (R50, R51). -/
def execRelease (q : ReqHead) (store : Byte) (s : State) : Result := onAddressed q 8 (releaseAnswer store) s

end Sys2Proof.Machine
end

