-- ==== Sys2Proof/Machine/Surveys.lean ====
section
/-! DEFINITION. The survey unit's commands: SURVEY, SURVEYREAD and the end of a survey (R144 to R147). -/

namespace Sys2Proof.Machine

/-- What SURVEY answers (R145). -/
def surveyAnswer (frames : Byte) (s : State) : Answer :=
  match readRange 1 255 frames.toNat with
  | none => refuse s .range
  | some n =>
    if s.survey.state = .running then refuse s .busy
    else { state := { s with survey := ⟨.running, n, Vector.replicate 16 SurveyRecord.cleared⟩ }, code := .done }

/-- SURVEY (R145). -/
def execSurvey (q : ReqHead) (frames : Byte) (s : State) : Result := onAddressed q 24 (surveyAnswer frames) s

/-- The 10 bytes of a survey record (§11.6); the bytes of its absent fields are 0 (log 11). -/
def surveyBytes (r : SurveyRecord) : List Byte :=
  natHalf r.pics ++ natHalf r.opens ++
    match r.last with
    | none => [0, 0, 0, 0, 0, 0]
    | some f => [1] ++ natHalf f.width ++ natHalf f.height ++ [f.tag]

/-- What SURVEYREAD answers (R147). -/
def surveyreadAnswer (source : Byte) (s : State) : Answer :=
  match readIndex 16 source with
  | none => refuse s .range
  | some src =>
    if s.survey.state = .running then refuse s .busy
    else { state := s, code := .done, result := surveyBytes (tget s.survey.records src) }

/-- SURVEYREAD (R147). -/
def execSurveyread (q : ReqHead) (source : Byte) (s : State) : Result := onAddressed q 25 (surveyreadAnswer source) s

/-- SURVEY_DONE (R146): SVU takes the output frame end that brings a running survey's frames left to 0, as a step of its own
(log 5). -/
def execSurveyDone (s : State) : Result :=
  .next (if s.rgu.scan = .running ∧ s.marked .survey = false ∧ s.survey.state = .running ∧ s.survey.framesLeft ≤ 1 then
    ({ s with survey := surveyCount s.survey }).mark .survey else s)

end Sys2Proof.Machine
end

