-- ==== Sys2Proof/Machine/Takes.lean ====
section
/-! DEFINITION. The requests to the transition and freeze units: TAKE, FREEZE, THAW (spec 4, spec 5). -/

namespace Sys2Proof.Machine

/-- LYU's content write (R21): the active record of `w` takes the content, and the pending record if there is one. -/
def contentWrite (o : Fin 4) (w : Fin 8) (c : Content) (s : State) : State :=
  s.setOutput o { s.output o with
    active := writeContent (s.output o).active w c, pending := writeContent (s.output o).pending w c }

/-- FZU takes the content change of a TAKE on an armed window (R96): the arming stays for the frozen source, and when the new
content equals the displayed one. -/
def rearm (o : Fin 4) (w : Fin 8) (was new : Shown) (s : State) : State :=
  match s.freeze o w with
  | .armed _ i => if was = new ∨ (s.frozenSource i).map Shown.source = some new then s else s.setFreeze o w .none
  | _ => s

/-- The result of a TAKE (R77, §11.6). -/
def takeResult (ended : Bool) (x : TransitionRecord) (duration : Nat) : List Byte :=
  match x with
  | .idle => [byteOf (if ended then 1 else 0), 0, 0, 0, 0, 0, byteOf duration]
  | .running t => [byteOf ((if ended then 1 else 0) + 2)] ++ shownBytes t.fromContent ++ [byteOf duration]

/-- A TAKE that passes its checks (R77), on a window whose active record is `r`. -/
def carryTake (o : Fin 4) (w : Fin 8) (r : WindowRecord) (b : Shown) (style : Style) (duration : Nat) (s : State) : Answer :=
  let a := displayed s o w r
  let ended := decide (s.transition o w ≠ .idle)
  let d := takenDuration style duration
  let x := startRecord a b style d .take
  { state := (rearm o w a b (contentWrite o w b.content s)).setTransition o w x
    code := .done
    result := takeResult ended x d }

/-- A freeze record is FROZEN. -/
def FreezeRecord.isFrozen : FreezeRecord → Bool
  | .frozen _ _ _ => true
  | _ => false

/-- What TAKE answers, its checks in the order of R75. -/
def takeAnswer (output window kind : Byte) (value : Word) (style duration : Byte) (s : State) : Answer :=
  match readIndex 4 output, readIndex 8 window, readShown kind value, readStyle style with
  | some o, some w, some b, some st =>
    match s.activeWindow o w with
    | none => refuse s .absent
    | some r => if (s.freeze o w).isFrozen then refuse s .frozen else carryTake o w r b st duration.toNat s
  | _, _, _, _ => refuse s .range

/-- TAKE (R75, R76, R77). -/
def execTake (q : ReqHead) (output window kind : Byte) (value : Word) (style duration : Byte) (s : State) : Result :=
  onAddressed q 17 (takeAnswer output window kind value style duration) s

/-- The result of a FREEZE that names a slot (R89, R90, §11.6). -/
def freezeResult (s : State) (i : Fin 8) (k : Fin 3) : List Byte :=
  [byteOf i.val, byteOf k.val, ((s.store i).slot k).tagByte, byteOf ((s.store i).slot k).pins]

/-- The checks of a FREEZE of either kind, in the order of R89, and what it does on the store bound to the window's source. A
window that is FROZEN already stays as it is. -/
def freezeChecked (kindOk : Bool) (output window : Byte) (s : State) (act : Fin 4 → Fin 8 → Fin 8 → Answer) : Answer :=
  match readIndex 4 output, readIndex 8 window, kindOk with
  | some o, some w, true =>
    match (s.activeWindow o w).map WindowRecord.content with
    | none => refuse s .absent
    | some (.source src) =>
      match s.storeOf src with
      | none => refuse s .absent
      | some i =>
        match s.freeze o w with
        | .frozen j k _ => { state := s, code := .done, result := freezeResult s j k }
        | _ => act o w i
    | some _ => refuse s .range
  | _, _, _ => refuse s .range

/-- What a FREEZE NOW does on store `i` (R90). -/
def freezeNowOn (s : State) (o : Fin 4) (w : Fin 8) (i : Fin 8) : Answer :=
  match (s.store i).pinAnswer with
  | .made k =>
    { state := takeFreeze o w i k false s, code := .done, result := freezeResult (takeFreeze o w i k false s) i k }
  | .joined k =>
    { state := takeFreeze o w i k false s, code := .shared, result := freezeResult (takeFreeze o w i k false s) i k }
  | .noSlot => refuse s .absent

/-- What a FREEZE of a kind other than AT answers (R89, R90): its kind byte is NOW, or out of range. -/
def freezeNowAnswer (output window kind : Byte) (s : State) : Answer :=
  freezeChecked (decide (kind.toNat = 0)) output window s (freezeNowOn s)

/-- FREEZE NOW (R89, R90). -/
def execFreezeNow (q : ReqHead) (output window kind : Byte) (s : State) : Result :=
  onAddressed q 18 (freezeNowAnswer output window kind) s

/-- What a FREEZE AT answers (R89, R91): the record is ARMED for the tag, naming the store. -/
def freezeAtAnswer (output window tag : Byte) (s : State) : Answer :=
  freezeChecked true output window s (fun o w i => { state := s.setFreeze o w (.armed tag i), code := .armed })

/-- FREEZE AT (R89, R91). -/
def execFreezeAt (q : ReqHead) (output window tag : Byte) (s : State) : Result :=
  onAddressed q 18 (freezeAtAnswer output window tag) s

/-- A THAW of window `w` of output `o` releases its freeze record and leaves its transition record IDLE (R84, R94). R94 and R84 say so of
every THAW, and R73 does not name a THAW among the ways back to IDLE; that it ends a transition on an ARMED or unfrozen window is read
from the words of R94 and R84 (DEDUCED, log 29). -/
def thawed (o : Fin 4) (w : Fin 8) (s : State) : State := (releaseFreeze o w s).setTransition o w .idle

/-- What a THAW of window `w` of output `o` answers (R94); the bytes that do not apply are 0 (R177). -/
def thawWindow (o : Fin 4) (w : Fin 8) (s : State) : Answer :=
  { state := thawed o w s, code := .done
    result :=
      match s.freeze o w with
      | .frozen i k _ => [1, byteOf i.val, byteOf k.val, byteOf (((thawed o w s).store i).slot k).pins, 0]
      | .armed tag _ => [2, 0, 0, 0, tag]
      | .none => [0, 0, 0, 0, 0] }

/-- What THAW answers (R94). -/
def thawAnswer (output window : Byte) (s : State) : Answer :=
  match readIndex 4 output, readIndex 8 window with
  | some o, some w => thawWindow o w s
  | _, _ => refuse s .range

/-- THAW (R94). -/
def execThaw (q : ReqHead) (output window : Byte) (s : State) : Result := onAddressed q 19 (thawAnswer output window) s

end Sys2Proof.Machine
end

