-- ==== Sys2Proof/Machine/Trunk.lean ====
section
/-! DEFINITION. The trunk: the receiver's events, the chain address, and cells that no block uses (spec 8). -/

namespace Sys2Proof.Machine

/-- ENUM (R140): an unassigned part takes a next address of 1..30 and passes it on incremented. -/
def takeEnum (next : Byte) (s : State) : State :=
  if s.address = none ∧ 1 ≤ next.toNat ∧ next.toNat ≤ 30 then ({ s with address := some next }).send (.enumNext (next + 1))
  else s.send .unchanged

/-- ENUM (R140). -/
def execEnumCell (next : Byte) (s : State) : Result := onCell (takeEnum next) s

/-- FORWARD_CELL (R130, R137): a good cell that no block uses goes on unchanged. -/
def execForwardCell (_kind : Byte) (s : State) : Result := onForwarded id s

/-- TRX enters HUNT (R129, R132): its good run is 0, and it tries a boundary that the manual does not name (log 9). -/
def enterHunt (s : State) : State :=
  { s.setTrx { s.trx with link := .hunt, goodRun := 0, boundary := Config.trialBoundary s.freeCount } with
    freeCount := s.freeCount + 1 }

/-- The fourth consecutive failed header sends TRX to HUNT (R134). -/
def linkLost (s : State) : State :=
  (enterHunt (s.setTrx { s.trx with consecErrors := 0 })).raise .linkResync

/-- A cell with a failed header in SYNC (R134): FILL in its place, counted, LINK_ERROR, and HUNT at the fourth in a row. -/
def failedHeader (s : State) : State :=
  let t := ((s.setTrx { s.trx with headerErrors := satInc s.trx.headerErrors, consecErrors := s.trx.consecErrors + 1 }).raise
    .linkError).send .fill
  if 4 ≤ t.trx.consecErrors then linkLost t else t

/-- HEADER_ERROR (R134). Out of SYNC, headers are examined by HUNT_HEADER_CHECK (R132). -/
def execHeaderError (s : State) : Result := .next (if s.trx.link = .sync then failedHeader s else s.noCell)

/-- LINK_HUNT (R134): the failed header that is the fourth in a row (log 5). -/
def execLinkHunt (s : State) : Result :=
  .next (if s.trx.link = .sync ∧ 3 ≤ s.trx.consecErrors then failedHeader s else s)

/-- A good header found in HUNT (R132): the run grows, and at 2 the link is in SYNC. -/
def goodInHunt (s : State) : State :=
  if 2 ≤ s.trx.goodRun + 1 then s.setTrx { s.trx with link := .sync, goodRun := 2, consecErrors := 0 }
  else s.setTrx { s.trx with goodRun := s.trx.goodRun + 1 }

/-- A failed header found in HUNT (R132): the run is 0 and the boundary one byte further is tried. -/
def failedInHunt (s : State) : State := s.setTrx { s.trx with goodRun := 0, boundary := s.trx.boundary + 1 }

/-- TRX is searching for a cell boundary: it is in HUNT and no break is being received (R132, R135). -/
def hunting (s : State) : Bool := decide (s.trx.link = .hunt) && s.trx.brk.isNone

/-- HUNT_HEADER_CHECK (R130, R132): the cell examined is not handed on, and FILL goes downstream in its place. -/
def execHuntHeaderCheck (header : List Byte) (check : Half) (s : State) : Result :=
  .next (if hunting s then (if goodHeader header check then goodInHunt s else failedInHunt s).send .fill else s)

/-- SYNC_REACHED (R132): the good header that brings the run to 2 (log 5). -/
def execSyncReached (s : State) : Result :=
  .next (if hunting s ∧ 1 ≤ s.trx.goodRun then (goodInHunt s).send .fill else s)

/-- TRX was in SYNC before the present trouble, and no chain break has been taken: LINK_RESYNC is due (R131, R135, R136). -/
def resyncDue (s : State) : Bool :=
  match s.trx.brk with
  | some b => b.fromSync && !b.long
  | none => decide (s.trx.link = .sync)

/-- LOSS_OF_SIGNAL (R131, R135): TRX is DOWN, the cell partly received is discarded, the one partly sent is cut short, and FILL
follows. -/
def loseSignal (s : State) : State :=
  ({ s.setTrx { s.trx with link := .down, brk := none } with fwd := ⟨.fill, s.trx.brk.isNone⟩ }).raiseIf (resyncDue s)
    .linkResync

/-- LOSS_OF_SIGNAL (R131). -/
def execLossOfSignal (s : State) : Result := .next (if s.trx.link = .down then s else loseSignal s)

/-- SIGNAL_RECEIVED (R131): from DOWN, TRX goes to HUNT with its good run at 0, and sends FILL (R132). -/
def execSignalReceived (s : State) : Result := .next (if s.trx.link = .down then (enterHunt s).send .fill else s)

/-- Break symbols begin (R135): the link state is HUNT for as long as they last, and they are repeated downstream. -/
def beginBreak (s : State) : State :=
  { s.setTrx { s.trx with
      link := .hunt, goodRun := 0, consecErrors := 0, brk := some ⟨decide (s.trx.link = .sync), false⟩ } with
    fwd := ⟨.breakSymbols, true⟩ }

/-- BREAK_START (R135). -/
def execBreakStart (s : State) : Result := .next (if s.trx.brk.isSome then s else beginBreak s)

/-- A break ends (R135, R136): TRX hunts for a boundary, with LINK_RESYNC after a short break that began in SYNC. -/
def endBreak (s : State) : State :=
  ((enterHunt (s.setTrx { s.trx with brk := none })).send .fill).raiseIf (resyncDue s) .linkResync

/-- BREAK_END (R135). -/
def execBreakEnd (s : State) : Result := .next (if s.trx.brk.isSome then endBreak s else s)

/-- The chain break (R136): the address is given up, the survey aborted, and CHAIN_BREAK set. -/
def takeChainBreak (b : Break) (s : State) : State :=
  ({ s.setTrx { s.trx with goodRun := 0, consecErrors := 0, brk := some { b with long := true } } with
     address := none, survey := Survey.reset }).raise .chainBreak

/-- CHAIN_BREAK (R136): the run of break symbols reaches 10 µs; the run has begun, if no command said so (log 15). It is taken
once in a break. -/
def chainBreakStep (s : State) : State :=
  let s := if s.trx.brk.isSome then s else beginBreak s
  match s.trx.brk with
  | some b => if b.long then s else takeChainBreak b s
  | none => s

/-- CHAIN_BREAK (R136). -/
def execChainBreak (s : State) : Result := .next (chainBreakStep s)

end Sys2Proof.Machine
end

