-- ==== Sys2Proof/Machine/Dispatch.lean ====
section
/-! DEFINITION. The effect of each command on everything but the queue: one arm per constructor of `Instr`. -/

namespace Sys2Proof.Machine

def exec (i : Instr) (s : State) : Host.Outcome State Fault Refusal :=
  match i with
  | .ident q => Sys2Proof.Machine.execIdent q s
  | .status q page => Sys2Proof.Machine.execStatus q page s
  | .clear q mask => Sys2Proof.Machine.execClear q mask s
  | .raster q activeWidth activeHeight totalWidth totalHeight background => Sys2Proof.Machine.execRaster q activeWidth activeHeight totalWidth totalHeight background s
  | .outmode q mask mode => Sys2Proof.Machine.execOutmode q mask mode s
  | .silence q hold loss => Sys2Proof.Machine.execSilence q hold loss s
  | .subscribe q store source => Sys2Proof.Machine.execSubscribe q store source s
  | .release q store => Sys2Proof.Machine.execRelease q store s
  | .winset q output record => Sys2Proof.Machine.execWinset q output record s
  | .windrop q output window => Sys2Proof.Machine.execWindrop q output window s
  | .winmove q output window position => Sys2Proof.Machine.execWinmove q output window position s
  | .winread q output window bank => Sys2Proof.Machine.execWinread q output window bank s
  | .discard q output => Sys2Proof.Machine.execDiscard q output s
  | .commit q mask => Sys2Proof.Machine.execCommit q mask s
  | .presave q output preset => Sys2Proof.Machine.execPresave q output preset s
  | .recall q mask preset => Sys2Proof.Machine.execRecall q mask preset s
  | .take q output window kind value style duration => Sys2Proof.Machine.execTake q output window kind value style duration s
  | .freezeNow q output window kind => Sys2Proof.Machine.execFreezeNow q output window kind s
  | .freezeAt q output window tag => Sys2Proof.Machine.execFreezeAt q output window tag s
  | .thaw q output window => Sys2Proof.Machine.execThaw q output window s
  | .rotset q list count entries dwell style duration => Sys2Proof.Machine.execRotset q list count entries dwell style duration s
  | .cueset q entry cue => Sys2Proof.Machine.execCueset q entry cue s
  | .cuedrop q entry => Sys2Proof.Machine.execCuedrop q entry s
  | .genlock q source => Sys2Proof.Machine.execGenlock q source s
  | .survey q frames => Sys2Proof.Machine.execSurvey q frames s
  | .surveyread q source => Sys2Proof.Machine.execSurveyread q source s
  | .restart q => Sys2Proof.Machine.execRestart q s
  | .unknownRequest q code => Sys2Proof.Machine.execUnknownRequest q code s
  | .frameOpen source tag width height cells tick => Sys2Proof.Machine.execFrameOpen source tag width height cells tick s
  | .pic source tag sequence line first count pixels => Sys2Proof.Machine.execPic source tag sequence line first count pixels s
  | .frameClose source tag cells => Sys2Proof.Machine.execFrameClose source tag cells s
  | .timebase weekday hour minute second frame => Sys2Proof.Machine.execTimebase weekday hour minute second frame s
  | .enumCell next => Sys2Proof.Machine.execEnumCell next s
  | .forwardCell kind => Sys2Proof.Machine.execForwardCell kind s
  | .headerError => Sys2Proof.Machine.execHeaderError s
  | .huntHeaderCheck header check => Sys2Proof.Machine.execHuntHeaderCheck header check s
  | .syncReached => Sys2Proof.Machine.execSyncReached s
  | .linkHunt => Sys2Proof.Machine.execLinkHunt s
  | .lossOfSignal => Sys2Proof.Machine.execLossOfSignal s
  | .signalReceived => Sys2Proof.Machine.execSignalReceived s
  | .breakStart => Sys2Proof.Machine.execBreakStart s
  | .breakEnd => Sys2Proof.Machine.execBreakEnd s
  | .chainBreak => Sys2Proof.Machine.execChainBreak s
  | .powerOn => Sys2Proof.Machine.execPowerOn s
  | .powerOnFillEnd => Sys2Proof.Machine.execPowerOnFillEnd s
  | .outputFrameEnd order => Sys2Proof.Machine.execOutputFrameEnd order s
  | .outputFrameStart => Sys2Proof.Machine.execOutputFrameStart s
  | .picWrite => Sys2Proof.Machine.execPicWrite s
  | .completion => Sys2Proof.Machine.execCompletion s
  | .listAdvance list => Sys2Proof.Machine.execListAdvance list s
  | .transitionEnd output window => Sys2Proof.Machine.execTransitionEnd output window s
  | .sourceStale store => Sys2Proof.Machine.execSourceStale store s
  | .sourceLost store => Sys2Proof.Machine.execSourceLost store s
  | .surveyDone => Sys2Proof.Machine.execSurveyDone s
  | .genlockTrack => Sys2Proof.Machine.execGenlockTrack s
  | .genlockLocked => Sys2Proof.Machine.execGenlockLocked s
  | .genlockUnlocked => Sys2Proof.Machine.execGenlockUnlocked s

end Sys2Proof.Machine
end

