-- ==== Sys2Proof/Safety.lean ====
section
/-! DEFINITION. What the spec says holds of the part's state at all times: the ranges of its fields, and the relations between
the blocks' states. Every property is decidable, so that a concrete state can be checked by evaluation. -/

namespace Sys2Proof.Safety

open Sys2Proof.Machine

/-! ### Trunk, chain address, counters (R129, R135, R139, R48, R113, R116, R144) -/

/-- The receiver's counts are in range, a break is received in HUNT with both counts at 0, and the chain address is unassigned
or 1..30 (R129, R135, R139). -/
abbrev TrunkLegal (s : State) : Prop :=
  s.trx.goodRun ≤ 2 ∧ s.trx.consecErrors ≤ 4 ∧ s.trx.headerErrors ≤ 65535
    ∧ (s.trx.brk.isSome = true → s.trx.link = .hunt ∧ s.trx.goodRun = 0 ∧ s.trx.consecErrors = 0)
    ∧ ∀ a ∈ s.address, 1 ≤ a.toNat ∧ a.toNat ≤ 30

/-- The counters of the part are in range: the silence limits and counters, the store counters, the output frame counter, and the
survey's counts, with at least one frame left while a survey runs (R48, R69, R116, R144, R146). -/
abbrev CountersLegal (s : State) : Prop :=
  (1 ≤ s.limits.hold ∧ s.limits.hold ≤ 255 ∧ s.limits.hold < s.limits.loss ∧ s.limits.loss ≤ 4095)
    ∧ (∀ i : Fin 8, (s.store i).silence ≤ 4095 ∧ (s.store i).completed ≤ 65535 ∧ (s.store i).dropped ≤ 65535
        ∧ (s.store i).damaged ≤ 65535 ∧ (s.store i).stray ≤ 65535)
    ∧ s.rgu.counter ≤ 4294967295
    ∧ s.survey.framesLeft ≤ 255 ∧ (s.survey.state = .running → 1 ≤ s.survey.framesLeft)
    ∧ ∀ src : Fin 16, (tget s.survey.records src).pics ≤ 65535 ∧ (tget s.survey.records src).opens ≤ 65535

/-! ### The cue unit (R149, R151) -/

/-- A clock's fields are in range (R149). -/
abbrev ClockLegal (c : Clock) : Prop := c.weekday ≤ 6 ∧ c.hour ≤ 23 ∧ c.minute ≤ 59 ∧ c.second ≤ 59 ∧ c.frame ≤ 59

/-- A cue's match fields are in range (R151). -/
abbrev CueLegal (c : Cue) : Prop :=
  (∀ v ∈ c.weekday, v ≤ 6) ∧ (∀ v ∈ c.hour, v ≤ 23) ∧ (∀ v ∈ c.minute, v ≤ 59) ∧ (∀ v ∈ c.second, v ≤ 59)
    ∧ ∀ v ∈ c.frame, v ≤ 59

/-- The house clock and every cue in use are in range. -/
abbrev CuesLegal (s : State) : Prop := (∀ c ∈ s.clock, ClockLegal c) ∧ ∀ i : Fin 16, ∀ c ∈ s.cue i, CueLegal c

/-! ### The layout unit (R1, R2) -/

/-- A crop's fields are in range (R1). -/
abbrev CropLegal (c : Crop) : Prop := c.cx0 ≤ 1919 ∧ c.cy0 ≤ 1199 ∧ 1 ≤ c.cw ∧ c.cw ≤ 1920 ∧ 1 ≤ c.ch ∧ c.ch ≤ 1200

/-- A window record's fields are in range (R1). -/
abbrev RecordLegal (r : WindowRecord) : Prop :=
  (-2048 ≤ r.x0 ∧ r.x0 ≤ 4095 ∧ -2048 ≤ r.y0 ∧ r.y0 ≤ 4095)
    ∧ (1 ≤ r.width ∧ r.width ≤ 4096 ∧ 1 ≤ r.height ∧ r.height ≤ 4096)
    ∧ (∀ c ∈ r.crop, CropLegal c) ∧ r.opacity ≤ 256 ∧ ∀ b ∈ r.border, b.width ≤ 15

/-- A window list holds 0 to 8 records in range, and no window number twice (R2). -/
abbrev WindowListLegal (l : List WindowRecord) : Prop :=
  l.length ≤ 8 ∧ (l.map WindowRecord.number).Nodup ∧ ∀ r ∈ l, RecordLegal r

/-- A window list is legal, as a truth value. -/
def windowListOk (l : List WindowRecord) : Bool := decide (WindowListLegal l)

/-- Both banks of every output, and every preset that is present, obey R1 and R2. -/
abbrev LayoutLegal (s : State) : Prop :=
  ∀ o : Fin 4, windowListOk (s.output o).active = true ∧ windowListOk (s.output o).pending = true
    ∧ ∀ n : Fin 8, ∀ l ∈ (s.output o).preset n, windowListOk l = true

/-! ### Stores, slots and the write queue (R48 to R62) -/

/-- The fields of a slot that holds a frame are in range (R52). -/
abbrev FrameLegal (f : FrameInfo) : Prop :=
  16 ≤ f.width ∧ f.width ≤ 1920 ∧ 16 ≤ f.height ∧ f.height ≤ 1200 ∧ 1 ≤ f.cells ∧ f.cells ≤ 16383 ∧ f.next ≤ f.cells

/-- One store: it is UNBOUND exactly when it holds no binding, and then it holds no frame; at most one slot is FILLING and at most
one selected; a selected slot is COMPLETE; the completion numbers are distinct and at most the completion counter. -/
abbrev StoreLegal (st : Store) : Prop :=
  (st.state = .unbound ↔ st.binding = none)
    ∧ (st.binding = none → st.silence = 0 ∧ st.dropping = false ∧ ∀ k : Fin 3, (st.slot k).frame = none)
    ∧ (∀ k : Fin 3, ∀ f ∈ (st.slot k).frame, FrameLegal f)
    ∧ (∀ j k : Fin 3, (st.slot j).filling = true → (st.slot k).filling = true → j = k)
    ∧ (∀ j k : Fin 3, (st.slot j).selected = true → (st.slot k).selected = true → j = k)
    ∧ (∀ k : Fin 3, (st.slot k).selected = true → (st.slot k).number?.isSome = true)
    ∧ (∀ k : Fin 3, ∀ n ∈ (st.slot k).number?, 1 ≤ n ∧ n ≤ st.completions)
    ∧ (∀ j k : Fin 3, ∀ n ∈ (st.slot j).number?, (st.slot k).number? = some n → j = k)
    ∧ st.completions ≤ Config.completionMax

/-- The fields of a queue entry are in range (R54, R57). -/
def entryInRange : QueueEntry → Bool
  | .pic _ _ line first pixels => decide (line ≤ 1199 ∧ first ≤ 1919 ∧ 1 ≤ pixels.length ∧ pixels.length ≤ 240)
  | .close _ _ => true

/-- A queue entry is in range, and its store is bound (R51, R54). -/
abbrev EntryLegal (s : State) (e : QueueEntry) : Prop :=
  (s.store e.store).binding.isSome = true ∧ entryInRange e = true

/-- How many close markers a slot should have in the queue: one while it is CLOSING, else none (R52, R59). -/
def markersDue (r : SlotRecord) : Nat := if r.closing then 1 else 0

/-- Every store is legal; no source is bound to two stores; the queue holds at most 48 entries in range; and a slot is CLOSING
exactly while its one close marker is in the queue (R48, R49, R52, R53, R54, R59, R62). -/
abbrev StoresLegal (s : State) : Prop :=
  (∀ i : Fin 8, StoreLegal (s.store i))
    ∧ (∀ i j : Fin 8, (s.store i).binding.isSome = true → (s.store i).binding = (s.store j).binding → i = j)
    ∧ s.queue.length ≤ Config.queueRoom
    ∧ (∀ e ∈ s.queue, EntryLegal s e)
    ∧ ∀ i : Fin 8, ∀ k : Fin 3, s.queue.count (.close i k) = markersDue ((s.store i).slot k)

/-- Frame memory is in its canonical form (R43, log 10). -/
abbrev MemoryLegal (s : State) : Prop := memWf s.memory = true

/-! ### Transitions and freezes (R73, R84, R88, R64) -/

/-- What a running transition's window holds in the active bank: the to-content for origin TAKE, the list for origin LIST
(R31, R81, R109). -/
def Transition.owner (t : Transition) : Content :=
  match t.origin with
  | .take => t.toContent.content
  | .list r => .list r

/-- The transition of a record that runs. -/
def runningOf : TransitionRecord → Option Transition
  | .idle => none
  | .running t => some t

/-- A running transition has 1..255 frames, has not reached its end, and belongs to a window of the active bank that still asks for
it (R73). -/
abbrev TransitionsLegal (s : State) : Prop :=
  ∀ o : Fin 4, ∀ w : Fin 8, ∀ t ∈ runningOf (s.transition o w),
    1 ≤ t.duration ∧ t.duration ≤ 255 ∧ t.position < t.duration
      ∧ (s.activeWindow o w).map WindowRecord.content = some (Transition.owner t)

/-- The store a freeze record names. -/
def storeNamed : FreezeRecord → Option (Fin 8)
  | .none => none
  | .armed _ i => some i
  | .frozen i _ _ => some i

/-- A freeze record is FROZEN on a slot. -/
def restsOn (i : Fin 8) (k : Fin 3) : FreezeRecord → Bool
  | .frozen j l _ => decide (j = i ∧ l = k)
  | _ => false

/-- How many windows are FROZEN on a slot (R88). -/
def frozenOn (s : State) (i : Fin 8) (k : Fin 3) : Nat :=
  (allWindows.filter (fun ow => restsOn i k (s.freeze ow.1 ow.2))).length

/-- An armed or frozen window shows the source bound to the store its record names; a frozen window runs no transition; a slot's pin
count is the number of windows FROZEN on it; a pinned slot is COMPLETE, and a store has at most one (R64, R84, R88, R95). -/
abbrev FreezesLegal (s : State) : Prop :=
  (∀ o : Fin 4, ∀ w : Fin 8, ∀ i ∈ storeNamed (s.freeze o w),
      (s.store i).binding.isSome = true
        ∧ (s.activeWindow o w).map WindowRecord.content = (s.store i).binding.map Content.source)
    ∧ (∀ o : Fin 4, ∀ w : Fin 8, (s.freeze o w).isFrozen = true → s.transition o w = .idle)
    ∧ (∀ i : Fin 8, ∀ k : Fin 3, ((s.store i).slot k).pins = frozenOn s i k)
    ∧ (∀ i : Fin 8, ∀ k : Fin 3, 0 < ((s.store i).slot k).pins → ((s.store i).slot k).number?.isSome = true)
    ∧ ∀ i : Fin 8, ∀ j k : Fin 3, 0 < ((s.store i).slot j).pins → 0 < ((s.store i).slot k).pins → j = k

/-! ### Rotation lists (R102, R104) -/

/-- A staged ROTSET holds 1 to 8 entries, and a dwell and a duration in range (R104, R105). -/
abbrev StagedLegal (st : StagedList) : Prop :=
  1 ≤ st.entries.length ∧ st.entries.length ≤ 8 ∧ 1 ≤ st.dwell ∧ st.dwell ≤ 65535 ∧ st.duration ≤ 255

/-- A rotation list: an empty one stands at position 0 with counter 0; a list with entries stands at one of them, its counter at
1..dwell (R102). -/
abbrev RotationLegal (l : RotationList) : Prop :=
  l.entries.length ≤ 8 ∧ 1 ≤ l.dwell ∧ l.dwell ≤ 65535 ∧ l.duration ≤ 255
    ∧ (l.entries = [] → l.position = 0 ∧ l.counter = 0)
    ∧ (l.entries ≠ [] → l.position < l.entries.length ∧ 1 ≤ l.counter ∧ l.counter ≤ l.dwell)
    ∧ ∀ st ∈ l.staged, StagedLegal st

/-- The four rotation lists. -/
abbrev ListsLegal (s : State) : Prop := ∀ r : Fin 4, RotationLegal (s.list r)

/-! ### Raster and genlock (R113, R114, R122 to R125) -/

/-- A raster in range (R113, R118). -/
abbrev RasterLegal (r : Raster) : Prop :=
  640 ≤ r.activeWidth ∧ r.activeWidth ≤ 1920 ∧ 360 ≤ r.activeHeight ∧ r.activeHeight ≤ 1200
    ∧ r.activeWidth + 16 ≤ r.totalWidth ∧ r.totalWidth ≤ 4095
    ∧ r.activeHeight + 4 ≤ r.totalHeight ∧ r.totalHeight ≤ 2047

/-- The rasters are in range; T and the coming c are within 2200 ticks; a frame that runs is within 4400 ticks of its nominal length,
has at least 1024 ticks of leading blanking, and stands before its end (R113, R114, R123). -/
abbrev RasterStateLegal (s : State) : Prop :=
  RasterLegal s.rgu.raster ∧ (∀ r ∈ s.rgu.staged, RasterLegal r)
    ∧ (-2200 ≤ s.rgu.trim ∧ s.rgu.trim ≤ 2200) ∧ (-2200 ≤ s.rgu.nextCorr ∧ s.rgu.nextCorr ≤ 2200)
    ∧ (s.rgu.scan = .running →
        s.rgu.tick < s.rgu.length ∧ s.rgu.raster.nominal ≤ s.rgu.length + 4400 ∧ s.rgu.length ≤ s.rgu.raster.nominal + 4400
          ∧ 1024 + s.rgu.raster.activeHeight * s.rgu.raster.totalWidth ≤ s.rgu.length)
    ∧ (s.rgu.scan = .fill → s.rgu.tick < s.rgu.length)

/-- Genlock: FREE, there is no reference, and T, the coming c, the capture, the last e and both counts are at rest; otherwise there is
a reference, and its store is LIVE (R113, R120, R125). -/
abbrev GenlockLegal (s : State) : Prop :=
  (s.rgu.genlock = .free ↔ s.rgu.reference = none)
    ∧ (s.rgu.genlock = .free →
        s.rgu.trim = 0 ∧ s.rgu.nextCorr = 0 ∧ s.rgu.capture = none ∧ s.rgu.lastE = none ∧ s.rgu.goodCount = 0
          ∧ s.rgu.badCount = 0)
    ∧ (∀ src ∈ s.rgu.reference, s.sourceLive src = true)
    ∧ s.rgu.goodCount ≤ 8 ∧ s.rgu.badCount ≤ 2

/-! ### Frame memory's users (R45) -/

/-- Scan-out fetches wait, and pixels stand fetched, only while a frame runs, and every fetch that waits was raised at the present tick
(R45, log 28). -/
abbrev FetchesLegal (s : State) : Prop :=
  (∀ f ∈ s.fmc.fetches, s.rgu.scan = .running ∧ f.raised = s.rgu.tick)
    ∧ ∀ o : Fin 4, (tget s.samples o).isSome = true → s.rgu.scan = .running

/-! ### Together -/

/-- Everything above. -/
abbrev Legal (s : State) : Prop :=
  TrunkLegal s ∧ CountersLegal s ∧ CuesLegal s ∧ LayoutLegal s ∧ StoresLegal s ∧ MemoryLegal s ∧ TransitionsLegal s
    ∧ FreezesLegal s ∧ ListsLegal s ∧ RasterStateLegal s ∧ GenlockLegal s ∧ FetchesLegal s

end Sys2Proof.Safety
end

