-- ==== Sys2Proof/Certificates/Slice0/Obligations.lean ====
section
/-! DEFINITION. The statements for the provers. `Sys2Proof.Claims` holds the words they share, written from the spec's rules; each
statement is a definition `Obligations.<Name>`. -/

namespace Sys2Proof.Claims

open Sys2Proof.Machine

/-! ### Commands by kind -/

/-- The head and the request code of a request (§11.4). -/
def requestOf : Instr → Option (ReqHead × Byte)
  | .ident q => some (q, 1)
  | .status q _ => some (q, 2)
  | .clear q _ => some (q, 3)
  | .raster q _ _ _ _ _ => some (q, 4)
  | .outmode q _ _ => some (q, 5)
  | .silence q _ _ => some (q, 6)
  | .subscribe q _ _ => some (q, 7)
  | .release q _ => some (q, 8)
  | .winset q _ _ => some (q, 9)
  | .windrop q _ _ => some (q, 10)
  | .winmove q _ _ _ => some (q, 11)
  | .winread q _ _ _ => some (q, 12)
  | .discard q _ => some (q, 13)
  | .commit q _ => some (q, 14)
  | .presave q _ _ => some (q, 15)
  | .recall q _ _ => some (q, 16)
  | .take q _ _ _ _ _ _ => some (q, 17)
  | .freezeNow q _ _ _ => some (q, 18)
  | .freezeAt q _ _ _ => some (q, 18)
  | .thaw q _ _ => some (q, 19)
  | .rotset q _ _ _ _ _ _ => some (q, 20)
  | .cueset q _ _ => some (q, 21)
  | .cuedrop q _ => some (q, 22)
  | .genlock q _ => some (q, 23)
  | .survey q _ => some (q, 24)
  | .surveyread q _ => some (q, 25)
  | .restart q => some (q, 26)
  | .unknownRequest q code => some (q, code)
  | _ => none

/-- The requests that may be broadcast: the left column of R164's table. -/
def mayBroadcast : Instr → Bool
  | .clear _ _ => true
  | .raster _ _ _ _ _ _ => true
  | .outmode _ _ _ => true
  | .silence _ _ _ => true
  | .commit _ _ => true
  | .recall _ _ _ => true
  | .rotset _ _ _ _ _ _ _ => true
  | .cueset _ _ _ => true
  | .cuedrop _ _ => true
  | .genlock _ _ => true
  | .restart _ => true
  | _ => false

/-- The command is RESTART. -/
def isRestart : Instr → Bool
  | .restart _ => true
  | _ => false

/-- The command is a cell position of the incoming stream: a request, another cell, or a cell with a failed header. -/
def isCell : Instr → Bool
  | .frameOpen _ _ _ _ _ _ => true
  | .pic _ _ _ _ _ _ _ => true
  | .frameClose _ _ _ => true
  | .timebase _ _ _ _ _ => true
  | .enumCell _ => true
  | .forwardCell _ => true
  | .headerError => true
  | c => (requestOf c).isSome

/-- The reply codes that refuse a request (10 §10.2). -/
def isRefusal : ReplyCode → Bool
  | .done => false
  | .armed => false
  | .shared => false
  | _ => true

/-! ### Delivery and replies -/

/-- The request is addressed to this part and is taken (R141). -/
abbrev Hears (q : ReqHead) (s : State) : Prop := s.trx.link = .sync ∧ s.address = some q.target ∧ q.target.toNat ≠ 31

/-- The request is a broadcast and is taken (R142). -/
abbrev Broadcast (q : ReqHead) (s : State) : Prop := s.trx.link = .sync ∧ q.target.toNat = 31

/-- The state, with the cell sent on as it came (R133, R137). -/
def passedOn (s : State) : State := { s with trx := { s.trx with consecErrors := 0 }, fwd := ⟨.unchanged, false⟩ }

/-- The state, with a reply sent in the cell's place (R138, R162): the attention indicator is read from this state (R165), and the
result is followed by zero bytes up to 40 (R177). -/
def replied (q : ReqHead) (code : Byte) (rc : ReplyCode) (result : List Byte) (s : State) : State :=
  { s with
    trx := { s.trx with consecErrors := 0 }
    fwd := ⟨.reply ⟨q.target, q.tag, code, rc, decide (s.conditions ≠ 0#12),
      result ++ List.replicate (40 - result.length) 0#8⟩, false⟩ }

/-- The state with condition `n` of R177 set. -/
def raised (n : Nat) (s : State) : State := { s with conditions := s.conditions ||| BitVec.twoPow 12 n }

/-- A byte names an item of a numbered kind (§0.9). -/
abbrev Names {n : Nat} (b : Byte) (i : Fin n) : Prop := b.toNat = i.val

/-- A colour as four bytes carry it (R177). -/
def colourOf (w : Word) : Colour :=
  ⟨BitVec.ofNat 10 (w.toNat / 2 ^ 20), BitVec.ofNat 10 (w.toNat / 2 ^ 10), BitVec.ofNat 10 w.toNat⟩

/-- A counter after one more event; it saturates at 65535 (§0.11, R70). -/
def bumped (n : Nat) : Nat := if n < 65535 then n + 1 else 65535

/-! ### Numbers of the enumerations -/

/-- The number of a genlock state: FREE, ACQUIRE, TRACK, LOCKED (R177). -/
def genlockNumber : GenlockState → Byte
  | .free => 0
  | .acquire => 1
  | .track => 2
  | .locked => 3

/-- The number of a source state: UNBOUND, WAITING, LIVE, STALE, LOST (R177). -/
def sourceNumber : SourceState → Byte
  | .unbound => 0
  | .waiting => 1
  | .live => 2
  | .stale => 3
  | .lost => 4

/-- The number of a slot's state: EMPTY, FILLING, CLOSING, COMPLETE, DAMAGED (R52, R177). -/
def slotNumber (r : SlotRecord) : Byte :=
  match r.frame.map FrameInfo.phase with
  | none => 0
  | some .filling => 1
  | some .closing => 2
  | some (.complete _) => 3
  | some .damaged => 4

/-- The number of a survey state: IDLE, RUNNING, DONE (R177). -/
def surveyNumber : SurveyState → Byte
  | .idle => 0
  | .running => 1
  | .done => 2

/-- The number of a reset cause: POWER_ON, RESTART (R177). -/
def resetNumber : ResetCause → Byte
  | .powerOn => 0
  | .restart => 1

/-- The number of a reply code, in the order of the table of §10.2 (R177). -/
def replyNumber : ReplyCode → Byte
  | .done => 0
  | .armed => 1
  | .busy => 2
  | .staged => 3
  | .range => 4
  | .absent => 5
  | .duplicate => 6
  | .full => 7
  | .pinned => 8
  | .shared => 9
  | .frozen => 10
  | .notLive => 11
  | .unknown => 12

/-! ### Layout -/

/-- A list holds one record of number `w`: `r`, with `below` and `above` around it. -/
abbrev HoldsAt (l below : List WindowRecord) (r : WindowRecord) (above : List WindowRecord) (w : Fin 8) : Prop :=
  l = below ++ r :: above ∧ r.number = w ∧ ∀ x ∈ below ++ above, x.number ≠ w

/-- A list holds no record of number `w`. -/
abbrev Lacks (l : List WindowRecord) (w : Fin 8) : Prop := ∀ x ∈ l, x.number ≠ w

/-- The fields of a WINSET record are within their ranges and encodings (R1, R6, R177). -/
abbrev RecordInRange (raw : RawWindow) : Prop :=
  raw.number.toNat < 8
    ∧ ((raw.kind.toNat = 0 ∧ raw.value.toNat / 2 ^ 24 < 16) ∨ (raw.kind.toNat = 1 ∧ raw.value.toNat / 2 ^ 24 < 4)
        ∨ raw.kind.toNat = 2)
    ∧ (-2048 ≤ raw.x0.toInt ∧ raw.x0.toInt ≤ 4095) ∧ (-2048 ≤ raw.y0.toInt ∧ raw.y0.toInt ≤ 4095)
    ∧ (1 ≤ raw.width.toNat ∧ raw.width.toNat ≤ 4096) ∧ (1 ≤ raw.height.toNat ∧ raw.height.toNat ≤ 4096)
    ∧ (raw.presence.getLsbD 0 = true →
        raw.cx0.toNat ≤ 1919 ∧ raw.cy0.toNat ≤ 1199 ∧ (1 ≤ raw.cw.toNat ∧ raw.cw.toNat ≤ 1920)
          ∧ (1 ≤ raw.ch.toNat ∧ raw.ch.toNat ≤ 1200))
    ∧ raw.presence.getLsbD 1 = raw.presence.getLsbD 2
    ∧ (raw.presence.getLsbD 1 = true → raw.borderWidth.toNat ≤ 15)

/-- The record LYU keeps of a WINSET record: as written, with opacity values 257..511 taken as 256 (R1, R6, R177). -/
def KeptAs (raw : RawWindow) (r : WindowRecord) : Prop :=
  r.number.val = raw.number.toNat
    ∧ (match r.content with
        | .source src => raw.kind.toNat = 0 ∧ src.val = raw.value.toNat / 2 ^ 24
        | .list l => raw.kind.toNat = 1 ∧ l.val = raw.value.toNat / 2 ^ 24
        | .colour c => raw.kind.toNat = 2 ∧ c = colourOf raw.value)
    ∧ r.x0 = raw.x0.toInt ∧ r.y0 = raw.y0.toInt ∧ r.width = raw.width.toNat ∧ r.height = raw.height.toNat
    ∧ r.crop = (if raw.presence.getLsbD 0 then some ⟨raw.cx0.toNat, raw.cy0.toNat, raw.cw.toNat, raw.ch.toNat⟩ else none)
    ∧ r.opacity = (if raw.opacity.toNat % 512 ≤ 256 then raw.opacity.toNat % 512 else 256)
    ∧ r.border = (if raw.presence.getLsbD 1 then some ⟨raw.borderWidth.toNat, colourOf raw.borderColour⟩ else none)
    ∧ r.fallback = (if raw.presence.getLsbD 3 then some (colourOf raw.fallback) else none)

/-- The state with the pending bank of an output edited: pending-dirty is set (R4). -/
def edited (o : Fin 4) (l : List WindowRecord) (s : State) : State :=
  s.setOutput o { s.output o with pending := l, dirty := true }

/-- Every output of a mask has its mode set (R19). -/
def moded (m : BitVec 4) (d : OutputMode) (s : State) : State :=
  { s with outputs := tmap (fun o out => if m.getLsbD o.val then { out with mode := d } else out) s.outputs }

/-- Every output of a mask is armed (R12). -/
def armedBy (m : BitVec 4) (s : State) : State :=
  { s with outputs := tmap (fun o out => if m.getLsbD o.val then { out with armed := true } else out) s.outputs }

/-- Preset `n` is recalled into every output of a mask that has it (R17, R18); EDIT_OVERRIDDEN is set if one of these was dirty. -/
def recalled (m : BitVec 4) (n : Fin 8) (s : State) : State :=
  { s with
    outputs := tmap (fun o out =>
      match tget out.presets n with
      | some l => if m.getLsbD o.val then { out with pending := l, dirty := false, armed := true } else out
      | none => out) s.outputs
    conditions :=
      if ∃ o : Fin 4, m.getLsbD o.val = true ∧ ((s.output o).preset n).isSome = true ∧ (s.output o).dirty = true then
        s.conditions ||| BitVec.twoPow 12 11
      else s.conditions }

/-! ### Stores -/

/-- Store `i` is the one bound to `src` (R49). -/
abbrev BoundAt (s : State) (src : Fin 16) (i : Fin 8) : Prop :=
  (s.store i).binding = some src ∧ ∀ j, (s.store j).binding = some src → j = i

/-- No store is bound to `src`. -/
abbrev Unbound (s : State) (src : Fin 16) : Prop := ∀ j, (s.store j).binding ≠ some src

/-- No slot of a store is pinned. -/
abbrev Unpinned (st : Store) : Prop := ∀ k, (st.slot k).pins = 0

/-- RGU takes the loss of the genlock reference (R125). -/
def referenceLost (s : State) : State :=
  { s with
    rgu := { s.rgu with genlock := .free, reference := none, trim := 0, nextCorr := 0, capture := none, lastE := none,
                        goodCount := 0, badCount := 0 }
    conditions :=
      if s.rgu.genlock = .locked then s.conditions ||| BitVec.twoPow 12 9 ||| BitVec.twoPow 12 8
      else s.conditions ||| BitVec.twoPow 12 9 }

/-- The store of `src` leaves LIVE, is rebound or is released (R68, R125). -/
def leftLive (src : Fin 16) (s : State) : State :=
  if s.rgu.genlock ≠ .free ∧ s.rgu.reference = some src then referenceLost s else s

/-- The end of store `i`'s binding to `src` (R51, R97, R125): its queue entries go, its armings are forgotten, RGU is told. -/
def unbinding (i : Fin 8) (src : Fin 16) (s : State) : State :=
  leftLive src { s with
    queue := s.queue.filter (fun e => e.store ≠ i)
    freezes := tmap (fun _ row => tmap (fun _ f => match f with
      | .armed t j => if j = i then .none else .armed t j
      | other => other) row) s.freezes }

/-- A slot that holds nothing, is not selected and has pin count 0. -/
def clearedSlots : Vector SlotRecord 3 := Vector.replicate 3 ⟨none, false, 0⟩

/-- A slot may be chosen for a new frame (R55). -/
abbrev Candidate (r : SlotRecord) : Prop :=
  r.selected = false ∧ r.pins = 0 ∧ ∀ f ∈ r.frame, f.phase ≠ .filling ∧ f.phase ≠ .closing

/-- A candidate of the first preference: EMPTY or DAMAGED (R55). -/
abbrev Vacant (r : SlotRecord) : Prop := Candidate r ∧ ∀ f ∈ r.frame, f.phase = .damaged

/-- A slot is COMPLETE with a completion number (R52). -/
abbrev CompleteAs (r : SlotRecord) (n : Nat) : Prop := ∃ f ∈ r.frame, f.phase = .complete n

/-- A candidate of the second preference, with its number: COMPLETE, and not the newest (R55). -/
def Superseded (st : Store) (k : Fin 3) (n : Nat) : Prop :=
  Candidate (st.slot k) ∧ CompleteAs (st.slot k) n ∧ ∃ j m, CompleteAs (st.slot j) m ∧ n < m

/-- The store's FILLING slot and its frame (R54). -/
abbrev FillingAt (st : Store) (k : Fin 3) (f : FrameInfo) : Prop :=
  (st.slot k).frame = some f ∧ f.phase = .filling ∧ ∀ j, ∀ g ∈ (st.slot j).frame, g.phase = .filling → j = k

/-- No slot of the store is FILLING with frame tag `tag`. -/
abbrev NoneFilling (st : Store) (tag : Byte) : Prop :=
  ∀ k, ∀ f ∈ (st.slot k).frame, f.phase = .filling → FillingAt st k f ∧ f.tag ≠ tag

/-- The store with slot `k`'s frame written. -/
def withFrame (st : Store) (k : Fin 3) (f : FrameInfo) : Store :=
  { st with slots := tset st.slots k { st.slot k with frame := some f } }

/-- The store with slot `k`'s frame, `f`, DAMAGED and counted (R52, R70). -/
def damagedAt (st : Store) (k : Fin 3) (f : FrameInfo) : Store :=
  { withFrame st k { f with phase := .damaged } with damaged := bumped st.damaged }

/-- The survey after a cell of a source, if one runs (R144). -/
def surveyed (src : Fin 16) (f : SurveyRecord → SurveyRecord) (v : Survey) : Survey :=
  if v.state = .running then { v with records := tset v.records src (f (tget v.records src)) } else v

/-! ### Takes, lists, cues -/

/-- The content window `w` of output `o`, with active record `r`, shows once a running transition has ended (R74). -/
def Displays (s : State) (o : Fin 4) (w : Fin 8) (r : WindowRecord) (a : Shown) : Prop :=
  match s.transition o w, r.content with
  | .running t, _ => a = t.toContent
  | .idle, .source src => a = .source src
  | .idle, .colour c => a = .colour c
  | .idle, .list l =>
    match (s.list l).entries[(s.list l).position]? with
    | some src => a = .source src
    | none => a = .colour (r.fallback.getD s.rgu.raster.background)

/-- The content a TAKE carries (R75, R177). -/
def ShownAs (kind : Byte) (value : Word) (b : Shown) : Prop :=
  match b with
  | .source src => kind.toNat = 0 ∧ src.val = value.toNat / 2 ^ 24
  | .colour c => kind.toNat = 2 ∧ c = colourOf value

/-- A style byte (R177). -/
def StyleAs (b : Byte) (st : Style) : Prop :=
  match st with
  | .cut => b.toNat = 0
  | .dissolve => b.toNat = 1
  | .fade => b.toNat = 2

/-- The duration a start takes (R76). -/
def durationTaken (st : Style) (d : Nat) : Nat := if st = .cut then 1 else if d = 0 then 1 else d

/-- The record a start of `b` leaves on a window that displays `a` (R79). -/
def started (a b : Shown) (st : Style) (d : Nat) (origin : Origin) : TransitionRecord :=
  if a = b then .idle else .running ⟨a, b, st, d, 0, origin⟩

/-- The kind and value bytes of a from-content (§11.6). -/
def contentSent : Shown → List Byte
  | .source src => [0, BitVec.ofNat 8 src.val, 0, 0, 0]
  | .colour c => 2 :: natWord (c.y.toNat * 2 ^ 20 + c.cb.toNat * 2 ^ 10 + c.cr.toNat)

/-- A list with one window's content written (R21). -/
def rewritten (l : List WindowRecord) (w : Fin 8) (c : Content) : List WindowRecord :=
  l.map (fun r => if r.number = w then { r with content := c } else r)

/-- An entry matches a clock (R151). -/
abbrev Matches (c : Cue) (t : Clock) : Prop :=
  (∀ v ∈ c.weekday, v = t.weekday) ∧ (∀ v ∈ c.hour, v = t.hour) ∧ (∀ v ∈ c.minute, v = t.minute)
    ∧ (∀ v ∈ c.second, v = t.second) ∧ ∀ v ∈ c.frame, v = t.frame

/-- The fields of a CUESET are in range: a present match field, the mode, the action with its preset or mode, and the mask
(R151, R156, R177). -/
abbrev CueInRange (raw : RawCue) : Prop :=
  (raw.presence.getLsbD 0 = true → raw.weekday.toNat ≤ 6) ∧ (raw.presence.getLsbD 1 = true → raw.hour.toNat ≤ 23)
    ∧ (raw.presence.getLsbD 2 = true → raw.minute.toNat ≤ 59) ∧ (raw.presence.getLsbD 3 = true → raw.second.toNat ≤ 59)
    ∧ (raw.presence.getLsbD 4 = true → raw.frame.toNat ≤ 59) ∧ raw.mode.toNat ≤ 1
    ∧ ((raw.action.toNat = 0 ∧ raw.argument.toNat ≤ 7) ∨ (raw.action.toNat = 1 ∧ raw.argument.toNat ≤ 1))
    ∧ raw.mask.toNat < 16

/-- The entry a CUESET writes, its matching flag clear (R151, R156). -/
def CueKeptAs (raw : RawCue) (x : Cue) : Prop :=
  x.weekday = (if raw.presence.getLsbD 0 then some raw.weekday.toNat else none)
    ∧ x.hour = (if raw.presence.getLsbD 1 then some raw.hour.toNat else none)
    ∧ x.minute = (if raw.presence.getLsbD 2 then some raw.minute.toNat else none)
    ∧ x.second = (if raw.presence.getLsbD 3 then some raw.second.toNat else none)
    ∧ x.frame = (if raw.presence.getLsbD 4 then some raw.frame.toNat else none)
    ∧ x.mode = (if raw.mode.toNat = 0 then .once else .repeating)
    ∧ (match x.action with
        | .recall n mask => raw.action.toNat = 0 ∧ n.val = raw.argument.toNat ∧ mask.toNat = raw.mask.toNat
        | .mode d mask => raw.action.toNat = 1 ∧ (d = .showing ↔ raw.argument.toNat = 1) ∧ mask.toNat = raw.mask.toNat)
    ∧ x.matching = false

/-- The fields of a store's page (R71, R100, §11.7). -/
def StorePage (s : State) (i : Fin 8) (r : List Byte) : Prop :=
  r.length = 24
    ∧ ((s.store i).binding = none → byteAt r 0 = 255#8)
    ∧ (∀ src, (s.store i).binding = some src → (byteAt r 0).toNat = src.val)
    ∧ byteAt r 1 = sourceNumber (s.store i).state ∧ halfAt r 2 = BitVec.ofNat 16 (s.store i).silence
    ∧ (∀ k : Fin 3, byteAt r (4 + k.val) = slotNumber ((s.store i).slot k)
        ∧ (byteAt r 7).getLsbD k.val = ((s.store i).slot k).frame.isSome
        ∧ (∀ f, ((s.store i).slot k).frame = some f → byteAt r (8 + k.val) = f.tag)
        ∧ byteAt r (11 + k.val) = BitVec.ofNat 8 ((s.store i).slot k).pins)
    ∧ (∀ k, ((s.store i).slot k).selected = true → (∀ j, ((s.store i).slot j).selected = true → j = k) →
        (byteAt r 14).toNat = k.val)
    ∧ ((∀ k, ((s.store i).slot k).selected = false) → byteAt r 14 = 255#8)
    ∧ halfAt r 15 = BitVec.ofNat 16 (s.store i).completed ∧ halfAt r 17 = BitVec.ofNat 16 (s.store i).dropped
    ∧ halfAt r 19 = BitVec.ofNat 16 (s.store i).damaged ∧ halfAt r 21 = BitVec.ofNat 16 (s.store i).stray
    ∧ byteAt r 23 = BitVec.ofNat 8 (allWindows.countP (fun ow => match s.freeze ow.1 ow.2 with
        | .frozen j _ true => decide (j = i)
        | _ => false))

/-! ### Frames and cells -/

/-- A FRAME-OPEN's fields are in range (R54). -/
abbrev OpenInRange (w h n : Half) : Prop :=
  16 ≤ w.toNat ∧ w.toNat ≤ 1920 ∧ 16 ≤ h.toNat ∧ h.toNat ≤ 1200 ∧ 1 ≤ n.toNat ∧ n.toNat ≤ 16383

/-- A PIC's fields are in range (R54). -/
abbrev PicInRange (line first : Half) (count : Byte) : Prop :=
  line.toNat ≤ 1199 ∧ first.toNat ≤ 1919 ∧ 1 ≤ count.toNat ∧ count.toNat ≤ 240

/-- The raster at a tick (R113): the fetches for the pixels of that tick wait, and no access is in progress (R45, log 28). -/
def ticked (tick : Nat) (s : State) : State :=
  { s with
    rgu := { s.rgu with tick := tick }
    fmc := ⟨State.raisedFetches { s with rgu := { s.rgu with tick := tick } }, none⟩
    samples := Vector.replicate 4 none }

/-- The raster at the tick of an arrival: within the running frame, and no earlier than it stood (R113, log 7). -/
def atTick (tick : Nat) (s : State) : State :=
  if s.rgu.scan = .running ∧ s.rgu.tick < tick ∧ s.rgu.tick < s.rgu.length - 1 then
    ticked (if tick < s.rgu.length then tick else s.rgu.length - 1) s
  else s

/-- The tick position a capture takes: 0 of the new frame once RGU has taken the output frame end (R121). -/
def captureTick (s : State) : Nat := if s.rgu.scan = .running ∧ FrameEndMark.genlock ∉ s.early then s.rgu.tick else 0

/-- RGU after a FRAME-OPEN of `src` that arrives now: a capture, with the phase error of R122, if `src` is the reference (R121). -/
def captured (src : Fin 16) (s : State) : Rgu :=
  { s.rgu with
    capture := if s.rgu.genlock ≠ .free ∧ s.rgu.reference = some src then
        some (if 2 * captureTick s ≤ s.rgu.length then (captureTick s : Int) else (captureTick s : Int) - s.rgu.length)
      else s.rgu.capture }

/-- What SVU and RGU do with a FRAME-OPEN of `src` (R121, R144). -/
def openSeen (src : Fin 16) (tag : Byte) (w h : Half) (tick : Nat) (s : State) : State :=
  { atTick tick s with
    survey := surveyed src (fun r => { r with opens := bumped r.opens, last := some ⟨w.toNat, h.toNat, tag⟩ }) s.survey
    rgu := captured src (atTick tick s) }

/-- Steps 1 and 2 of R55 on store `i`: from state `s`, the state is `u` and the store stands at `st`. -/
def OpenReady (i : Fin 8) (s u : State) (st : Store) : Prop :=
  ((∀ k, ∀ f ∈ ((s.store i).slot k).frame, f.phase ≠ .filling) ∧ u = s
      ∧ st = { s.store i with silence := 0, dropping := false })
    ∨ ∃ k f, FillingAt (s.store i) k f ∧ u = raised 4 s
      ∧ st = damagedAt { s.store i with silence := 0, dropping := false } k f

/-! ### The output frame -/

/-- A bound store's silence counter after one more output frame end (R66). -/
def silenceAfter (s : State) (i : Fin 8) : Nat :=
  if (s.store i).silence < s.limits.loss then (s.store i).silence + 1 else s.limits.loss

/-- The output frame end still to come makes a store STALE (R66). -/
abbrev GoesStale (s : State) (i : Fin 8) : Prop :=
  FrameEndMark.silence i ∉ s.early ∧ (s.store i).binding ≠ none ∧ (s.store i).state = .live
    ∧ s.limits.hold ≤ silenceAfter s i ∧ silenceAfter s i < s.limits.loss

/-- The output frame end still to come makes a store LOST (R66). -/
abbrev GoesLost (s : State) (i : Fin 8) : Prop :=
  FrameEndMark.silence i ∉ s.early ∧ (s.store i).binding ≠ none
    ∧ ((s.store i).state = .live ∨ (s.store i).state = .stale) ∧ s.limits.loss ≤ silenceAfter s i

/-- A slot is the store's newest COMPLETE slot (R53). -/
def NewestComplete (st : Store) (k : Fin 3) : Prop :=
  ∃ n, CompleteAs (st.slot k) n ∧ ∀ j m, CompleteAs (st.slot j) m → m ≤ n

/-- The output frame end still to come takes the store of the genlock reference out of LIVE (R66, R68, R125). -/
abbrev ReferenceGoes (s : State) : Prop :=
  ∃ i, (s.store i).binding = s.rgu.reference ∧ (s.store i).state = .live ∧ (GoesStale s i ∨ GoesLost s i)

/-- The content of window `w` in the active bank of output `o`. -/
def activeContent (s : State) (o : Fin 4) (w : Fin 8) : Option Content := (s.activeWindow o w).map WindowRecord.content

/-- The content of window `w` in the pending bank of output `o`: after a bank swap, in the new active bank (R14). -/
def pendingContent (s : State) (o : Fin 4) (w : Fin 8) : Option Content :=
  (findWindow (s.output o).pending w).map WindowRecord.content

/-- Window `w` of output `o` holds content `c` at the output frame end still to come, and goes on holding it: its output does not
swap, or its new record holds that content too (R14). -/
abbrev Holds (s : State) (o : Fin 4) (w : Fin 8) (c : Content) : Prop :=
  activeContent s o w = some c ∧ ((s.output o).armed = false ∨ pendingContent s o w = some c)

/-- No list that window `w` of output `o` is bound to asks for a start at the output frame end still to come (R106, R107). -/
abbrev NoStart (s : State) (o : Fin 4) (w : Fin 8) : Prop :=
  ∀ l, activeContent s o w = some (.list l) → FrameEndMark.list l ∈ s.early
    ∨ ((s.list l).staged = none ∧ ((s.list l).entries = [] ∨ 1 < (s.list l).counter))

/-- A running transition after one more output frame end (R78). -/
def advanced (x : Transition) : TransitionRecord :=
  if x.position + 1 < x.duration then .running { x with position := x.position + 1 } else .idle

/-- The output frame end still to come keeps a freeze record of a store bound to `src` on window `w` of output `o`: the output does not
swap, or the new record shows that source (R95). -/
abbrev KeepsFreeze (s : State) (o : Fin 4) (w : Fin 8) (src : Fin 16) : Prop :=
  (s.output o).armed = false ∨ pendingContent s o w = some (.source src)

/-- How many windows ARMED for `tag` on store `i`, bound to `src`, are kept at the output frame end still to come (R92, R95). -/
def takenAt (s : State) (i : Fin 8) (src : Fin 16) (tag : Byte) : Nat :=
  allWindows.countP (fun ow => decide (s.freeze ow.1 ow.2 = .armed tag i ∧ KeepsFreeze s ow.1 ow.2 src))

/-- The side a source resolves to (R28). -/
def SourceDrawn (s : State) (fb : Colour) (src : Fin 16) (side : Side) : Prop :=
  (Unbound s src → side = .colour fb)
    ∧ ∀ i, BoundAt s src i →
      (((s.store i).state ≠ .live ∧ (s.store i).state ≠ .stale) → side = .colour fb)
      ∧ ((∀ k, ((s.store i).slot k).selected = false) → side = .colour fb)
      ∧ ∀ k f, ((s.store i).state = .live ∨ (s.store i).state = .stale) → ((s.store i).slot k).selected = true →
          (∀ j, ((s.store i).slot j).selected = true → j = k) → ((s.store i).slot k).frame = some f →
          side = .slot i k f.width f.height

/-- The side a content of a transition resolves to (R31). -/
def ShownDrawn (s : State) (fb : Colour) (a : Shown) (side : Side) : Prop :=
  match a with
  | .source src => SourceDrawn s fb src side
  | .colour c => side = .colour c

/-- The drawing of a record on output `o`, with its fallback colour (R28 to R31). -/
def DrawnAs (s : State) (o : Fin 4) (r : WindowRecord) (fb : Colour) (d : Drawing) : Prop :=
  (∀ i k shared f, s.freeze o r.number = .frozen i k shared → ((s.store i).slot k).frame = some f →
      d = .single (.slot i k f.width f.height))
    ∧ ((∀ i k shared, s.freeze o r.number ≠ .frozen i k shared) →
      (∀ t, s.transition o r.number = .running t → ∃ a b, d = .mixed a b t.style t.duration t.position
        ∧ ShownDrawn s fb t.fromContent a ∧ ShownDrawn s fb t.toContent b)
      ∧ (s.transition o r.number = .idle → ∃ side, d = .single side
        ∧ (∀ src, r.content = .source src → SourceDrawn s fb src side)
        ∧ (∀ c, r.content = .colour c → side = .colour c)
        ∧ ∀ l, r.content = .list l →
          (∀ src, (s.list l).entries[(s.list l).position]? = some src → SourceDrawn s fb src side)
          ∧ ((s.list l).entries = [] → side = .colour fb)))

/-- A plan entry covers a pixel: the pixel lies in the plan's active area and in the entry's rectangle (R34). -/
abbrev Covers (p : FramePlan) (e : PlanEntry) (x y : Nat) : Prop :=
  x < p.activeWidth ∧ y < p.activeHeight ∧ e.x0 ≤ x ∧ (x : Int) < e.x0 + e.width ∧ e.y0 ≤ y ∧ (y : Int) < e.y0 + e.height

/-- A pixel is `i` columns and `j` lines into the inner rectangle of a plan entry, `w` × `h` (R33, R35). -/
abbrev InnerAt (e : PlanEntry) (x y i j w h : Nat) : Prop :=
  (w : Int) = e.width - 2 * e.borderWidth ∧ (h : Int) = e.height - 2 * e.borderWidth ∧ i < w ∧ j < h
    ∧ (x : Int) = e.x0 + e.borderWidth + i ∧ (y : Int) = e.y0 + e.borderWidth + j

/-- The effective crop of a `wf` × `hf` frame, when it is not empty (R36). -/
abbrev CropsTo (crop : Option Crop) (wf hf cx cy cw ch : Nat) : Prop :=
  match crop with
  | none => cx = 0 ∧ cy = 0 ∧ cw = wf ∧ ch = hf
  | some c => c.cx0 < wf ∧ c.cy0 < hf ∧ cx = c.cx0 ∧ cy = c.cy0 ∧ cw = min (c.cx0 + c.cw) wf - c.cx0
      ∧ ch = min (c.cy0 + c.ch) hf - c.cy0

/-- A side takes a sample: it is a slot, and its effective crop is not empty (R36, R38). -/
def Sampled (crop : Option Crop) (side : Side) : Prop :=
  match side with
  | .colour _ => False
  | .slot _ _ wf hf => ∀ c ∈ crop, c.cx0 < wf ∧ c.cy0 < hf

/-- The tick at which the active pixel (x, y) of a frame is sent (R114): B + y × total width + x, where B is the frame length less its
active lines. -/
def sentAt (r : Raster) (length x y : Nat) : Nat := length - r.activeHeight * r.totalWidth + y * r.totalWidth + x

/-- One bit entering the header check (R176). -/
def checkedBit (r : Half) (bit : Bool) : Half :=
  if r.getLsbD 15 = bit then BitVec.ofNat 16 (2 * r.toNat) else BitVec.ofNat 16 (2 * r.toNat) ^^^ 4129#16

/-! ### Resets -/

/-- A store that is unbound, with nothing in it (R48). -/
def emptyStore : Store := ⟨none, .unbound, 0, clearedSlots, 0, false, 0, 0, 0, 0⟩

/-- RGU's reset values, with the frame that was running (R113). -/
def resetRgu (scan : Scan) (length tick : Nat) : Rgu where
  raster := ⟨1920, 1080, 2200, 1125, ⟨64#10, 512#10, 512#10⟩⟩
  staged := none
  scan := scan
  length := length
  corr := 0
  tick := tick
  counter := 0
  genlock := .free
  reference := none
  trim := 0
  nextCorr := 0
  capture := none
  lastE := none
  goodCount := 0
  badCount := 0

/-- An output DARK with empty banks, and its presets (R3). -/
def darkOutput (presets : Vector (Option (List WindowRecord)) 8) : Output := ⟨[], [], false, false, presets, .dark⟩

/-- The state after power-on (R175): the values each chapter's table gives for it. -/
def afterPowerOn (s : State) : State where
  trx := ⟨.down, 0, 0, 0, 0, none⟩
  fwd := ⟨.fill, false⟩
  address := none
  stores := Vector.replicate 8 emptyStore
  limits := ⟨12, 120⟩
  queue := []
  memory := []
  fmc := ⟨[], none⟩
  rgu := resetRgu .fill 2475000 0
  outputs := Vector.replicate 4 (darkOutput (Vector.replicate 8 none))
  transitions := Vector.replicate 4 (Vector.replicate 8 .idle)
  former := Vector.replicate 4 (Vector.replicate 8 none)
  freezes := Vector.replicate 4 (Vector.replicate 8 .none)
  lists := Vector.replicate 4 ⟨[], 1, .cut, 0, 0, 0, none⟩
  clock := none
  cues := Vector.replicate 16 none
  plans := Vector.replicate 4 none
  samples := Vector.replicate 4 none
  survey := ⟨.idle, 0, Vector.replicate 16 ⟨0, 0, none⟩⟩
  conditions := 0#12
  lastReset := .powerOn
  early := []
  freeCount := s.freeCount
  pending := s.pending

/-- The state after RESTART (R174): as after power-on, but for what RESTART keeps. -/
def afterRestart (s : State) : State :=
  { afterPowerOn s with
    trx := { s.trx with headerErrors := 0 }
    fwd := s.fwd
    address := s.address
    memory := s.memory
    rgu := resetRgu (if s.rgu.scan = .running then .between else s.rgu.scan) s.rgu.length s.rgu.tick
    outputs := tmap (fun _ out => darkOutput out.presets) s.outputs
    lastReset := .restart }

/-! ### Commands by what they write -/

/-- The command is CLEAR. -/
def isClear : Instr → Bool
  | .clear _ _ => true
  | _ => false

/-- The command is PRESAVE. -/
def isPresave : Instr → Bool
  | .presave _ _ _ => true
  | _ => false

/-- The command is ENUM. -/
def isEnum : Instr → Bool
  | .enumCell _ => true
  | _ => false

/-- The command is TIMEBASE. -/
def isTimebase : Instr → Bool
  | .timebase _ _ _ _ _ => true
  | _ => false

/-- The command is SILENCE. -/
def isSilence : Instr → Bool
  | .silence _ _ _ => true
  | _ => false

end Sys2Proof.Claims

open Sys2Proof Sys2Proof.Machine Sys2Proof.Claims Sys2Proof.Safety

/-! ### Commands, cells and replies -/

/-- A step with a command at the front of the queue is that command's effect, with the queue's rest. On an empty queue it is one raster
tick: a running frame stands one tick further, until its last, which OUTPUT_FRAME_END ends; the black frames of the power-on fill go
round; between frames nothing moves (R113, R117). The queue, and that a tick passes when it is empty, are the model's (log 1), as are
the fetches raised at each tick (log 28). -/
def Obligations.StepRunsTheFrontCommand : Prop :=
  (∀ (c : Instr) (s : State), step { s with pending := c :: s.pending } = exec c s)
    ∧ ∀ s : State, s.pending = [] →
      (s.rgu.scan = .running → s.rgu.tick + 1 < s.rgu.length → step s = .next (ticked (s.rgu.tick + 1) s))
      ∧ (s.rgu.scan = .running → s.rgu.length ≤ s.rgu.tick + 1 → step s = .next s)
      ∧ (s.rgu.scan = .fill →
          step s = .next { s with rgu := { s.rgu with tick := (s.rgu.tick + 1) % s.rgu.length } })
      ∧ (s.rgu.scan = .between → step s = .next s)

/-- Every command answers a next state, and leaves the queue of commands as it is. That an event whose trigger does not hold, and a
term that no cell or event spells, answer a next state too is the model's choice (log 4, 14); the queue, and that POWER_ON keeps it, are
the model's (log 1, 20). -/
def Obligations.EveryCommandCompletes : Prop :=
  ∀ (c : Instr) (s : State), ∃ t, exec c s = .next t ∧ t.pending = s.pending

/-- Cells that are not for this part: out of SYNC no block gets a cell and FILL takes its place, or nothing during a break
(R131, R132, R135); in SYNC a request for another part, and a broadcast of a request that may not be broadcast, pass unchanged
(R141, R142, R164). That a cell command out of SYNC leaves all else as it is, the good run included, and that it changes nothing during a
break, is the model's reading (log 3). -/
def Obligations.CellsNotForThisPart : Prop :=
  (∀ (c : Instr) (s : State), isCell c = true → s.trx.link ≠ .sync →
      exec c s = .next (if s.trx.brk = none then { s with fwd := ⟨.fill, false⟩ } else s))
    ∧ (∀ (c : Instr) (q : ReqHead) (code : Byte) (s : State), requestOf c = some (q, code) → s.trx.link = .sync →
        q.target.toNat ≠ 31 → s.address ≠ some q.target → exec c s = .next (passedOn s))
    ∧ ∀ (c : Instr) (q : ReqHead) (code : Byte) (s : State), requestOf c = some (q, code) → mayBroadcast c = false →
        Broadcast q s → exec c s = .next (passedOn s)

/-- A refused request changes nothing but what goes downstream, and its result is empty, but for NOTLIVE's genlock state
(R161, R162). -/
def Obligations.RefusalsChangeNothing : Prop :=
  ∀ (c : Instr) (q : ReqHead) (code : Byte) (s t : State) (r : Reply), requestOf c = some (q, code) → Hears q s →
    exec c s = .next t → t.fwd = ⟨.reply r, false⟩ → isRefusal r.code = true →
    t = replied q code r.code (if r.code = .notLive then [genlockNumber s.rgu.genlock] else []) s

/-- The reply to an addressed request carries the part's address, the request's tag and code and 40 result bytes (R162, R177), and
the attention indicator after the request's effects, or, for RESTART, before them (R165). -/
def Obligations.RepliesNameTheirRequest : Prop :=
  ∀ (c : Instr) (q : ReqHead) (code : Byte) (s : State), requestOf c = some (q, code) → Hears q s →
    ∃ t r, exec c s = .next t ∧ t.fwd = ⟨.reply r, false⟩ ∧ s.address = some r.target ∧ r.target = q.target ∧ r.tag = q.tag
      ∧ r.request = code ∧ r.result.length = 40
      ∧ r.attention = decide ((if isRestart c = true then s.conditions else t.conditions) ≠ 0#12)

/-! ### Reports -/

/-- IDENT answers 945, 1, the chain address, 4 and 8, and a broadcast of it is ignored (R170, R177). -/
def Obligations.IdentAnswers : Prop :=
  ∀ (q : ReqHead) (s : State),
    (Broadcast q s → exec (.ident q) s = .next (passedOn s))
    ∧ (Hears q s → exec (.ident q) s = .next (replied q 1 .done [3#8, 177#8, 1#8, q.target, 4#8, 8#8] s))

/-- STATUS changes nothing and answers the page it names, with the states and the reset cause by their numbers (R177); above page 10 it
is refused RANGE (R171, R172, §11.7). That page 9 reports
the c of the frame that ended while no frame runs is the model's reading, since R128 speaks of the running frame only (log 16). -/
def Obligations.StatusReports : Prop :=
  ∀ (q : ReqHead) (page : Byte) (s : State), Hears q s →
    (10 < page.toNat → exec (.status q page) s = .next (replied q 2 .range [] s))
    ∧ (page.toNat ≤ 10 → ∃ r : List Byte, exec (.status q page) s = .next (replied q 2 .done r s)
      ∧ (page.toNat = 0 →
          r.length = 13 ∧ byteAt r 0 = 2#8 ∧ byteAt r 1 = q.target ∧ byteAt r 2 = genlockNumber s.rgu.genlock
          ∧ (∀ o : Fin 4, (byteAt r 3).getLsbD o.val = decide ((s.output o).mode = .showing)
              ∧ (byteAt r 4).getLsbD o.val = (s.output o).armed)
          ∧ halfAt r 5 = s.conditions.setWidth 16 ∧ byteAt r 7 = resetNumber s.lastReset
          ∧ wordAt r 8 = BitVec.ofNat 32 s.rgu.counter ∧ byteAt r 12 = surveyNumber s.survey.state)
      ∧ (∀ i : Fin 8, page.toNat = i.val + 1 → StorePage s i r)
      ∧ (page.toNat = 9 →
          r.length = 12 ∧ (s.rgu.reference = none → byteAt r 0 = 255#8)
          ∧ (∀ src, s.rgu.reference = some src → (byteAt r 0).toNat = src.val)
          ∧ byteAt r 1 = (if s.rgu.lastE.isSome then 1#8 else 0#8)
          ∧ (∀ e, s.rgu.lastE = some e → wordAt r 2 = BitVec.ofInt 32 e)
          ∧ halfAt r 6 = BitVec.ofInt 16 s.rgu.trim ∧ halfAt r 8 = BitVec.ofInt 16 s.rgu.corr
          ∧ byteAt r 10 = BitVec.ofNat 8 s.rgu.goodCount ∧ byteAt r 11 = BitVec.ofNat 8 s.rgu.badCount)
      ∧ (page.toNat = 10 →
          r.length = 4 ∧ halfAt r 0 = BitVec.ofNat 16 s.trx.headerErrors
          ∧ halfAt r 2 = BitVec.ofNat 16 (min 65535 ((s.store 0).stray + (s.store 1).stray + (s.store 2).stray
              + (s.store 3).stray + (s.store 4).stray + (s.store 5).stray + (s.store 6).stray + (s.store 7).stray))))

/-- CLEAR clears the conditions its mask names, and answers the twelve as they stood (R167). -/
def Obligations.ClearClearsTheNamedConditions : Prop :=
  ∀ (q : ReqHead) (mask : Half) (s : State),
    (Hears q s → exec (.clear q mask) s =
      .next (replied q 3 .done (halfBytes (s.conditions.setWidth 16)) { s with conditions := s.conditions &&& ~~~(mask.setWidth 12) }))
    ∧ (Broadcast q s → exec (.clear q mask) s = .next (passedOn { s with conditions := s.conditions &&& ~~~(mask.setWidth 12) }))

/-- A request of a code that names no request is answered UNKNOWN, and a broadcast of it is ignored (R163). -/
def Obligations.UnknownRequestsAreAnsweredUnknown : Prop :=
  ∀ (q : ReqHead) (code : Byte) (s : State), code.toNat = 0 ∨ 27 ≤ code.toNat →
    (Hears q s → exec (.unknownRequest q code) s = .next (replied q code .unknown [] s))
    ∧ (Broadcast q s → exec (.unknownRequest q code) s = .next (passedOn s))

/-! ### Layout -/

/-- WINSET: its checks in the order of R5, the record it keeps (R1, R6), and where it goes: over the record of the same number, or
on top of a list with room (R7). -/
def Obligations.WinsetPlacesTheRecord : Prop :=
  ∀ (q : ReqHead) (ob : Byte) (raw : RawWindow) (s : State), Hears q s →
    ((4 ≤ ob.toNat ∨ 8 ≤ raw.number.toNat) → exec (.winset q ob raw) s = .next (replied q 9 .range [] s))
    ∧ ∀ o : Fin 4, Names ob o → raw.number.toNat < 8 →
      ((s.output o).armed = true → exec (.winset q ob raw) s = .next (replied q 9 .staged [] s))
      ∧ ((s.output o).armed = false → ¬ RecordInRange raw → exec (.winset q ob raw) s = .next (replied q 9 .range [] s))
      ∧ ((s.output o).armed = false → RecordInRange raw → ∃ r, KeptAs raw r
        ∧ (∀ below old above, HoldsAt (s.output o).pending below old above r.number →
            exec (.winset q ob raw) s = .next (replied q 9 .done
              [BitVec.ofNat 8 below.length, BitVec.ofNat 8 (s.output o).pending.length] (edited o (below ++ r :: above) s)))
        ∧ (Lacks (s.output o).pending r.number → (s.output o).pending.length < 8 →
            exec (.winset q ob raw) s = .next (replied q 9 .done
              [BitVec.ofNat 8 (s.output o).pending.length, BitVec.ofNat 8 ((s.output o).pending.length + 1)]
              (edited o ((s.output o).pending ++ [r]) s)))
        ∧ (Lacks (s.output o).pending r.number → 8 ≤ (s.output o).pending.length →
            exec (.winset q ob raw) s = .next (replied q 9 .full [] s)))

/-- WINDROP removes the record of its window from the pending bank; the records above it move down (R2, R5, R8). -/
def Obligations.WindropRemovesTheRecord : Prop :=
  ∀ (q : ReqHead) (ob wb : Byte) (s : State), Hears q s →
    ((4 ≤ ob.toNat ∨ 8 ≤ wb.toNat) → exec (.windrop q ob wb) s = .next (replied q 10 .range [] s))
    ∧ ∀ (o : Fin 4) (w : Fin 8), Names ob o → Names wb w →
      ((s.output o).armed = true → exec (.windrop q ob wb) s = .next (replied q 10 .staged [] s))
      ∧ ((s.output o).armed = false → Lacks (s.output o).pending w →
          exec (.windrop q ob wb) s = .next (replied q 10 .absent [] s))
      ∧ ((s.output o).armed = false → ∀ below r above, HoldsAt (s.output o).pending below r above w →
          exec (.windrop q ob wb) s = .next (replied q 10 .done [BitVec.ofNat 8 (below.length + above.length)]
            (edited o (below ++ above) s)))

/-- WINMOVE takes the record of its window out and inserts it at its target position, or at the top of a shorter list
(R5, R9). -/
def Obligations.WinmoveReordersTheList : Prop :=
  ∀ (q : ReqHead) (ob wb pb : Byte) (s : State), Hears q s →
    ((4 ≤ ob.toNat ∨ 8 ≤ wb.toNat ∨ 16 ≤ pb.toNat) → exec (.winmove q ob wb pb) s = .next (replied q 11 .range [] s))
    ∧ ∀ (o : Fin 4) (w : Fin 8), Names ob o → Names wb w → pb.toNat < 16 →
      ((s.output o).armed = true → exec (.winmove q ob wb pb) s = .next (replied q 11 .staged [] s))
      ∧ ((s.output o).armed = false → Lacks (s.output o).pending w →
          exec (.winmove q ob wb pb) s = .next (replied q 11 .absent [] s))
      ∧ ((s.output o).armed = false → ∀ below r above, HoldsAt (s.output o).pending below r above w →
          ∀ under upper : List WindowRecord, below ++ above = under ++ upper →
            under.length = (if pb.toNat < below.length + above.length then pb.toNat else below.length + above.length) →
            exec (.winmove q ob wb pb) s = .next (replied q 11 .done [BitVec.ofNat 8 under.length]
              (edited o (under ++ r :: upper) s)))

/-- WINREAD changes nothing and answers the record of its window in the bank it names, with its position and the list's length;
it is admitted on an armed output (R5, R10). -/
def Obligations.WinreadReportsTheRecord : Prop :=
  ∀ (q : ReqHead) (ob wb bb : Byte) (s : State), Hears q s →
    ((4 ≤ ob.toNat ∨ 8 ≤ wb.toNat ∨ 2 ≤ bb.toNat) → exec (.winread q ob wb bb) s = .next (replied q 12 .range [] s))
    ∧ ∀ (o : Fin 4) (w : Fin 8) (l : List WindowRecord), Names ob o → Names wb w →
        (bb.toNat = 0 ∧ l = (s.output o).active ∨ bb.toNat = 1 ∧ l = (s.output o).pending) →
      (Lacks l w → exec (.winread q ob wb bb) s = .next (replied q 12 .absent [] s))
      ∧ ∀ below r above, HoldsAt l below r above w →
          exec (.winread q ob wb bb) s = .next (replied q 12 .done
            (windowBytes r ++ [BitVec.ofNat 8 below.length, BitVec.ofNat 8 l.length]) s)

/-- Bytes on the trunk read back as what was written. The 34 bytes WINREAD writes for a record are the WINSET bytes of that very record
(§11.5, R6, R177). The header check is R176's, bit by bit, and a header region followed by its check leaves 0. Every cell the part
writes, a reply, a FILL or an ENUM with a new next address, is 1008 bytes with its fields in place and a good header, so that a receiver
in SYNC takes it for what it is; a cell with a failed header is taken for none (R130, R137, R138, R176, §11.2). -/
def Obligations.WindowBytesReadBack : Prop :=
  (∀ r : WindowRecord, RecordLegal r → (windowBytes r).length = 34 ∧ readWindow (rawWindowAt (windowBytes r) 0) = some r)
    ∧ headerCheck [] = 65535#16
    ∧ (∀ (h : List Byte) (b : Byte), headerCheck (h ++ [b]) =
        [b.getLsbD 7, b.getLsbD 6, b.getLsbD 5, b.getLsbD 4, b.getLsbD 3, b.getLsbD 2, b.getLsbD 1, b.getLsbD 0].foldl checkedBit
          (headerCheck h))
    ∧ (∀ h : List Byte, headerCheck (h ++ halfBytes (headerCheck h)) = 0#16)
    ∧ (∀ (tick : Nat) (cell : List Byte), cell.length = 1008 → headerCheck (cell.take 46) ≠ halfAt cell 46 →
        decodeCell tick cell = some .headerError)
    ∧ ∀ received : List Byte,
      sentCell received .unchanged = some received ∧ sentCell received .breakSymbols = none
      ∧ (∀ r : Reply, r.result.length = 40 → ∃ cell, sentCell received (.reply r) = some cell ∧ cell.length = 1008
          ∧ byteAt cell 0 = 7#8 ∧ byteAt cell 1 = r.target ∧ byteAt cell 2 = r.tag ∧ byteAt cell 3 = r.request
          ∧ byteAt cell 4 = replyNumber r.code ∧ byteAt cell 5 = (if r.attention then 1#8 else 0#8)
          ∧ (∀ n, n < 40 → byteAt cell (6 + n) = byteAt r.result n) ∧ (∀ n, 48 ≤ n → byteAt cell n = 0#8)
          ∧ ∀ tick, decodeCell tick cell = some (.forwardCell 7#8))
      ∧ (∃ cell, sentCell received .fill = some cell ∧ cell.length = 1008
          ∧ (∀ n, n ≠ 46 → n ≠ 47 → byteAt cell n = 0#8) ∧ ∀ tick, decodeCell tick cell = some (.forwardCell 0#8))
      ∧ (received.length = 1008 → byteAt received 0 = 5#8 → ∀ next : Byte, ∃ cell,
          sentCell received (.enumNext next) = some cell ∧ cell.length = 1008
          ∧ (∀ n, n ≠ 1 → n ≠ 46 → n ≠ 47 → byteAt cell n = byteAt received n)
          ∧ ∀ tick, decodeCell tick cell = some (.enumCell next))

/-- DISCARD makes the pending bank a copy of the active bank and clears pending-dirty; on an armed output it is refused STAGED
(R11). -/
def Obligations.DiscardRestoresThePendingBank : Prop :=
  ∀ (q : ReqHead) (ob : Byte) (s : State), Hears q s →
    (4 ≤ ob.toNat → exec (.discard q ob) s = .next (replied q 13 .range [] s))
    ∧ ∀ o : Fin 4, Names ob o →
      ((s.output o).armed = true → exec (.discard q ob) s = .next (replied q 13 .staged [] s))
      ∧ ((s.output o).armed = false → exec (.discard q ob) s = .next (replied q 13 .done []
          (s.setOutput o { s.output o with pending := (s.output o).active, dirty := false })))

/-- COMMIT arms, and OUTMODE sets the mode of, each output of its mask; both may be broadcast (R12, R19, R177). -/
def Obligations.MasksArmAndSetModes : Prop :=
  ∀ (q : ReqHead) (mb db : Byte) (s : State),
    (Hears q s →
      (16 ≤ mb.toNat → exec (.commit q mb) s = .next (replied q 14 .range [] s))
      ∧ (mb.toNat = 0 → exec (.commit q mb) s = .next (replied q 14 .done [] s))
      ∧ (mb.toNat < 16 → mb.toNat ≠ 0 → exec (.commit q mb) s = .next (replied q 14 .armed [] (armedBy (mb.setWidth 4) s)))
      ∧ ((16 ≤ mb.toNat ∨ 2 ≤ db.toNat) → exec (.outmode q mb db) s = .next (replied q 5 .range [] s))
      ∧ (mb.toNat < 16 → db.toNat = 0 → exec (.outmode q mb db) s = .next (replied q 5 .done [] (moded (mb.setWidth 4) .dark s)))
      ∧ (mb.toNat < 16 → db.toNat = 1 →
          exec (.outmode q mb db) s = .next (replied q 5 .done [] (moded (mb.setWidth 4) .showing s))))
    ∧ (Broadcast q s →
      (16 ≤ mb.toNat → exec (.commit q mb) s = .next (passedOn s))
      ∧ (mb.toNat < 16 → exec (.commit q mb) s = .next (passedOn (armedBy (mb.setWidth 4) s)))
      ∧ ((16 ≤ mb.toNat ∨ 2 ≤ db.toNat) → exec (.outmode q mb db) s = .next (passedOn s))
      ∧ (mb.toNat < 16 → db.toNat = 0 → exec (.outmode q mb db) s = .next (passedOn (moded (mb.setWidth 4) .dark s)))
      ∧ (mb.toNat < 16 → db.toNat = 1 → exec (.outmode q mb db) s = .next (passedOn (moded (mb.setWidth 4) .showing s))))

/-- PRESAVE makes a preset a copy of the output's pending bank, armed or not, and leaves the banks and flags (R16). -/
def Obligations.PresaveCopiesThePendingBank : Prop :=
  ∀ (q : ReqHead) (ob nb : Byte) (s : State), Hears q s →
    ((4 ≤ ob.toNat ∨ 8 ≤ nb.toNat) → exec (.presave q ob nb) s = .next (replied q 15 .range [] s))
    ∧ ∀ (o : Fin 4) (n : Fin 8), Names ob o → Names nb n →
        exec (.presave q ob nb) s = .next (replied q 15 .done []
          (s.setOutput o { s.output o with presets := tset (s.output o).presets n (some (s.output o).pending) }))

/-- RECALL: addressed, it is refused ABSENT when a named output lacks the preset, and otherwise recalls it into each; broadcast, it
recalls it where it is present (R17, R18). -/
def Obligations.RecallCopiesThePreset : Prop :=
  ∀ (q : ReqHead) (mb nb : Byte) (s : State),
    (Hears q s →
      ((16 ≤ mb.toNat ∨ 8 ≤ nb.toNat) → exec (.recall q mb nb) s = .next (replied q 16 .range [] s))
      ∧ ∀ n : Fin 8, Names nb n →
        (mb.toNat = 0 → exec (.recall q mb nb) s = .next (replied q 16 .done [] s))
        ∧ (mb.toNat < 16 → (∃ o : Fin 4, mb.getLsbD o.val = true ∧ (s.output o).preset n = none) →
            exec (.recall q mb nb) s = .next (replied q 16 .absent [] s))
        ∧ (mb.toNat < 16 → mb.toNat ≠ 0 → (∀ o : Fin 4, mb.getLsbD o.val = true → (s.output o).preset n ≠ none) →
            exec (.recall q mb nb) s = .next (replied q 16 .armed [] (recalled (mb.setWidth 4) n s))))
    ∧ (Broadcast q s →
      ((16 ≤ mb.toNat ∨ 8 ≤ nb.toNat) → exec (.recall q mb nb) s = .next (passedOn s))
      ∧ ∀ n : Fin 8, Names nb n → mb.toNat < 16 →
          exec (.recall q mb nb) s = .next (passedOn (recalled (mb.setWidth 4) n s)))

/-! ### Stores -/

/-- SILENCE sets both limits when they are in range and the loss limit is the greater; otherwise nothing changes (R69). -/
def Obligations.SilenceSetsTheLimits : Prop :=
  ∀ (q : ReqHead) (hold : Byte) (loss : Half) (s : State),
    ((1 ≤ hold.toNat ∧ 2 ≤ loss.toNat ∧ loss.toNat ≤ 4095 ∧ hold.toNat < loss.toNat) →
      (Hears q s → exec (.silence q hold loss) s =
        .next (replied q 6 .done [] { s with limits := ⟨hold.toNat, loss.toNat⟩ }))
      ∧ (Broadcast q s → exec (.silence q hold loss) s = .next (passedOn { s with limits := ⟨hold.toNat, loss.toNat⟩ })))
    ∧ (¬ (1 ≤ hold.toNat ∧ 2 ≤ loss.toNat ∧ loss.toNat ≤ 4095 ∧ hold.toNat < loss.toNat) →
      (Hears q s → exec (.silence q hold loss) s = .next (replied q 6 .range [] s))
      ∧ (Broadcast q s → exec (.silence q hold loss) s = .next (passedOn s)))

/-- SUBSCRIBE: its checks in order; accepted, it ends the binding there was, and the store is bound to the source, WAITING, with
three cleared slots and its counters at 0 (R49, R51, R97, R125). -/
def Obligations.SubscribeBindsTheStore : Prop :=
  ∀ (q : ReqHead) (ib sb : Byte) (s : State), Hears q s →
    ((8 ≤ ib.toNat ∨ 16 ≤ sb.toNat) → exec (.subscribe q ib sb) s = .next (replied q 7 .range [] s))
    ∧ ∀ (i : Fin 8) (src : Fin 16), Names ib i → Names sb src →
      ((∃ j, j ≠ i ∧ (s.store j).binding = some src) → exec (.subscribe q ib sb) s = .next (replied q 7 .duplicate [] s))
      ∧ ((∀ j, (s.store j).binding = some src → j = i) →
        ((s.store i).binding ≠ none → ¬ Unpinned (s.store i) →
          exec (.subscribe q ib sb) s = .next (replied q 7 .pinned [] s))
        ∧ ((s.store i).binding = none → exec (.subscribe q ib sb) s = .next (replied q 7 .done []
            (s.setStore i ⟨some src, .waiting, 0, clearedSlots, 0, false, 0, 0, 0, 0⟩)))
        ∧ ∀ old, (s.store i).binding = some old → Unpinned (s.store i) →
          exec (.subscribe q ib sb) s = .next (replied q 7 .done []
            ((unbinding i old s).setStore i ⟨some src, .waiting, 0, clearedSlots, 0, false, 0, 0, 0, 0⟩)))

/-- RELEASE: its checks; accepted, it ends the binding, and the store is UNBOUND with three cleared slots, its four counters kept
(R50, R51, R97, R125). That its completion counter is kept too is the model's reading (log 27). -/
def Obligations.ReleaseUnbindsTheStore : Prop :=
  ∀ (q : ReqHead) (ib : Byte) (s : State), Hears q s →
    (8 ≤ ib.toNat → exec (.release q ib) s = .next (replied q 8 .range [] s))
    ∧ ∀ i : Fin 8, Names ib i →
      ((s.store i).binding = none → exec (.release q ib) s = .next (replied q 8 .absent [] s))
      ∧ ((s.store i).binding ≠ none → ¬ Unpinned (s.store i) → exec (.release q ib) s = .next (replied q 8 .pinned [] s))
      ∧ ∀ old, (s.store i).binding = some old → Unpinned (s.store i) →
        exec (.release q ib) s = .next (replied q 8 .done []
          ((unbinding i old s).setStore i
            { s.store i with binding := none, state := .unbound, silence := 0, slots := clearedSlots, dropping := false }))

/-! ### Takes and freezes -/

/-- TAKE: its checks in the order of R75; carried out, both banks' records of the window take the content (R21), an arming for
another source is forgotten (R96), and a start is made from the displayed content (R76, R77, R79). -/
def Obligations.TakeStartsATransition : Prop :=
  ∀ (q : ReqHead) (ob wb kb : Byte) (value : Word) (yb db : Byte) (s : State), Hears q s →
    ((4 ≤ ob.toNat ∨ 8 ≤ wb.toNat ∨ 3 ≤ yb.toNat ∨ ¬ ∃ b, ShownAs kb value b) →
      exec (.take q ob wb kb value yb db) s = .next (replied q 17 .range [] s))
    ∧ ∀ (o : Fin 4) (w : Fin 8) (b : Shown) (style : Style), Names ob o → Names wb w → ShownAs kb value b → StyleAs yb style →
      (Lacks (s.output o).active w → exec (.take q ob wb kb value yb db) s = .next (replied q 17 .absent [] s))
      ∧ ∀ below r above, HoldsAt (s.output o).active below r above w →
        ((∃ i k shared, s.freeze o w = .frozen i k shared) →
          exec (.take q ob wb kb value yb db) s = .next (replied q 17 .frozen [] s))
        ∧ ((∀ i k shared, s.freeze o w ≠ .frozen i k shared) → ∀ a, Displays s o w r a →
          exec (.take q ob wb kb value yb db) s = .next (replied q 17 .done
            ((BitVec.ofNat 8 ((if s.transition o w = .idle then 0 else 1) + (if a = b then 0 else 2)))
              :: (if a = b then [0, 0, 0, 0, 0] else contentSent a)
              ++ [BitVec.ofNat 8 (durationTaken style db.toNat)])
            ((({ s with
                freezes := match s.freeze o w with
                  | .armed _ i => if a = b ∨ ∃ src, (s.store i).binding = some src ∧ b = Shown.source src then s.freezes
                                  else gset s.freezes o w .none
                  | _ => s.freezes }).setOutput o { s.output o with
                    active := below ++ { r with content := b.content } :: above
                    pending := rewritten (s.output o).pending w b.content }).setTransition o w
              (started a b style (durationTaken style db.toNat) .take))))

/-- FREEZE NOW: with no pin on the store, it pins the selected slot; with one, it joins it and answers SHARED; with neither it answers
ABSENT. A freeze that is taken ends the window's transition. A window that is FROZEN already is only reported (R64, R89, R90). -/
def Obligations.FreezeNowPinsASlot : Prop :=
  ∀ (q : ReqHead) (ob wb kb : Byte) (s : State), Hears q s → kb.toNat = 0 →
    ∀ (o : Fin 4) (w : Fin 8), Names ob o → Names wb w →
    ∀ (r : WindowRecord) (src : Fin 16) (i : Fin 8), s.activeWindow o w = some r → r.content = .source src → BoundAt s src i →
      ((∀ j k shared, s.freeze o w ≠ .frozen j k shared) →
        (∀ k f, Unpinned (s.store i) → ((s.store i).slot k).selected = true →
          (∀ j, ((s.store i).slot j).selected = true → j = k) → ((s.store i).slot k).frame = some f →
          exec (.freezeNow q ob wb kb) s = .next (replied q 18 .done
            [BitVec.ofNat 8 i.val, BitVec.ofNat 8 k.val, f.tag, 1#8]
            (((s.setStore i ((s.store i).setSlot k { (s.store i).slot k with pins := 1 })).setFreeze o w
              (.frozen i k false)).setTransition o w .idle)))
        ∧ (∀ k f, 0 < ((s.store i).slot k).pins → (∀ j, 0 < ((s.store i).slot j).pins → j = k) →
          ((s.store i).slot k).frame = some f →
          exec (.freezeNow q ob wb kb) s = .next (replied q 18 .shared
            [BitVec.ofNat 8 i.val, BitVec.ofNat 8 k.val, f.tag, BitVec.ofNat 8 (((s.store i).slot k).pins + 1)]
            (((s.setStore i ((s.store i).setSlot k { (s.store i).slot k with
              pins := ((s.store i).slot k).pins + 1 })).setFreeze o w (.frozen i k false)).setTransition o w .idle)))
        ∧ (Unpinned (s.store i) → (∀ k, ((s.store i).slot k).selected = false) →
          exec (.freezeNow q ob wb kb) s = .next (replied q 18 .absent [] s)))
      ∧ ∀ j k shared f, s.freeze o w = .frozen j k shared → ((s.store j).slot k).frame = some f →
        exec (.freezeNow q ob wb kb) s = .next (replied q 18 .done
          [BitVec.ofNat 8 j.val, BitVec.ofNat 8 k.val, f.tag, BitVec.ofNat 8 ((s.store j).slot k).pins] s)

/-- FREEZE AT arms the window for its tag, naming the store bound to the window's source (R91); a window that is FROZEN already is
only reported, and nothing changes (R89). A FREEZE of either kind is refused RANGE for a number or a kind out of range, ABSENT without the
window, RANGE without a source content, ABSENT without a store (R89). Kind 1 is FREEZE AT itself (R177): no cell spells it as the row
FREEZE_NOW, and nothing is said of that term (log 13, 14). -/
def Obligations.FreezeAtArmsAndFreezesCheck : Prop :=
  ∀ (q : ReqHead) (ob wb kb tag : Byte) (s : State), Hears q s →
    (2 ≤ kb.toNat → exec (.freezeNow q ob wb kb) s = .next (replied q 18 .range [] s))
    ∧ ((4 ≤ ob.toNat ∨ 8 ≤ wb.toNat) →
      exec (.freezeAt q ob wb tag) s = .next (replied q 18 .range [] s)
      ∧ (kb.toNat = 0 → exec (.freezeNow q ob wb kb) s = .next (replied q 18 .range [] s)))
    ∧ ∀ (o : Fin 4) (w : Fin 8), Names ob o → Names wb w →
      (s.activeWindow o w = none →
        exec (.freezeAt q ob wb tag) s = .next (replied q 18 .absent [] s)
        ∧ (kb.toNat = 0 → exec (.freezeNow q ob wb kb) s = .next (replied q 18 .absent [] s)))
      ∧ ∀ r, s.activeWindow o w = some r →
        ((∀ src, r.content ≠ .source src) →
          exec (.freezeAt q ob wb tag) s = .next (replied q 18 .range [] s)
          ∧ (kb.toNat = 0 → exec (.freezeNow q ob wb kb) s = .next (replied q 18 .range [] s)))
        ∧ ∀ src, r.content = .source src →
          (Unbound s src →
            exec (.freezeAt q ob wb tag) s = .next (replied q 18 .absent [] s)
            ∧ (kb.toNat = 0 → exec (.freezeNow q ob wb kb) s = .next (replied q 18 .absent [] s)))
          ∧ ∀ i, BoundAt s src i →
            ((∀ j k shared, s.freeze o w ≠ .frozen j k shared) →
              exec (.freezeAt q ob wb tag) s = .next (replied q 18 .armed [] (s.setFreeze o w (.armed tag i))))
            ∧ ∀ j k shared f, s.freeze o w = .frozen j k shared → ((s.store j).slot k).frame = some f →
              exec (.freezeAt q ob wb tag) s = .next (replied q 18 .done
                [BitVec.ofNat 8 j.val, BitVec.ofNat 8 k.val, f.tag, BitVec.ofNat 8 ((s.store j).slot k).pins] s)

/-- THAW releases a frozen window and its pin, forgets an arming, leaves the window's transition record IDLE, and changes nothing else; it
answers what it released, and a broadcast of it is ignored (R84, R94). That it leaves the record IDLE on a window that is not frozen too is
the model's reading of R94, since R73 does not name it (log 29). -/
def Obligations.ThawReleasesTheWindow : Prop :=
  ∀ (q : ReqHead) (ob wb : Byte) (s : State),
    (Broadcast q s → exec (.thaw q ob wb) s = .next (passedOn s))
    ∧ (Hears q s → (4 ≤ ob.toNat ∨ 8 ≤ wb.toNat) → exec (.thaw q ob wb) s = .next (replied q 19 .range [] s))
    ∧ (Hears q s → ∀ (o : Fin 4) (w : Fin 8), Names ob o → Names wb w →
      (∀ i k shared, s.freeze o w = .frozen i k shared →
        exec (.thaw q ob wb) s = .next (replied q 19 .done
          [1#8, BitVec.ofNat 8 i.val, BitVec.ofNat 8 k.val, BitVec.ofNat 8 (((s.store i).slot k).pins - 1), 0#8]
          (((s.setStore i ((s.store i).setSlot k { (s.store i).slot k with
            pins := ((s.store i).slot k).pins - 1 })).setFreeze o w .none).setTransition o w .idle)))
      ∧ (∀ tag i, s.freeze o w = .armed tag i →
        exec (.thaw q ob wb) s = .next (replied q 19 .done [2#8, 0#8, 0#8, 0#8, tag]
          ((s.setFreeze o w .none).setTransition o w .idle)))
      ∧ (s.freeze o w = .none → exec (.thaw q ob wb) s = .next (replied q 19 .done [0#8, 0#8, 0#8, 0#8, 0#8]
          (s.setTransition o w .idle))))

/-! ### Rotation lists and cues -/

/-- ROTSET stages its list, answering what the list stood at; with a fault it is refused, or ignored as a broadcast
(R104, R105, §11.6). -/
def Obligations.RotsetStagesTheList : Prop :=
  ∀ (q : ReqHead) (lb count : Byte) (entries : List Byte) (dwell : Half) (yb db : Byte) (s : State), entries.length = 8 →
    ((4 ≤ lb.toNat ∨ count.toNat = 0 ∨ 9 ≤ count.toNat ∨ (∃ b ∈ entries.take count.toNat, 16 ≤ b.toNat) ∨ 3 ≤ yb.toNat) →
      (Hears q s → exec (.rotset q lb count entries dwell yb db) s = .next (replied q 20 .range [] s))
      ∧ (Broadcast q s → exec (.rotset q lb count entries dwell yb db) s = .next (passedOn s)))
    ∧ ∀ (r : Fin 4) (srcs : List (Fin 16)) (style : Style), Names lb r → 1 ≤ count.toNat → count.toNat ≤ 8 →
      entries.take count.toNat = srcs.map (fun src => BitVec.ofNat 8 src.val) → StyleAs yb style →
      ∀ d : Nat, d = (if dwell.toNat = 0 then 1 else dwell.toNat) →
      (Hears q s → exec (.rotset q lb count entries dwell yb db) s = .next (replied q 20 .armed
        ([if (s.list r).staged = none then 0#8 else 1#8,
          if (s.list r).entries = [] then 255#8 else BitVec.ofNat 8 (s.list r).position]
          ++ natHalf (s.list r).counter ++ natHalf d)
        (s.setList r { s.list r with staged := some ⟨srcs, d, style, db.toNat⟩ })))
      ∧ (Broadcast q s → exec (.rotset q lb count entries dwell yb db) s =
        .next (passedOn (s.setList r { s.list r with staged := some ⟨srcs, d, style, db.toNat⟩ })))

/-- LIST_ADVANCE: at the frame end a dwell runs out, the list moves to the first other position whose source is LIVE, and each bound
window starts the list's transition from the former entry to the new one; with no such position it stays; the counter is reloaded
in either case (R107, R108, R109, R79). A transition it starts is marked, so that the coming output frame end does not advance it (R78).
Taking the list's part as a step of its own, and the marks, are the model's choice (log 5). -/
def Obligations.ListAdvanceMovesToTheNextLiveEntry : Prop :=
  ∀ (r : Fin 4) (s : State), s.rgu.scan = .running → FrameEndMark.list r ∉ s.early → (s.list r).staged = none →
    (s.list r).entries ≠ [] → (s.list r).counter ≤ 1 →
    ((∀ m src, 1 ≤ m → m < (s.list r).entries.length →
        (s.list r).entries[((s.list r).position + m) % (s.list r).entries.length]? = some src → s.sourceLive src = false) →
      exec (.listAdvance r) s = .next ((s.setList r { s.list r with counter := (s.list r).dwell }).mark (.list r)))
    ∧ ∀ m src cur, 1 ≤ m → m < (s.list r).entries.length →
      (s.list r).entries[((s.list r).position + m) % (s.list r).entries.length]? = some src → s.sourceLive src = true →
      (∀ m' src', 1 ≤ m' → m' < m →
        (s.list r).entries[((s.list r).position + m') % (s.list r).entries.length]? = some src' → s.sourceLive src' = false) →
      (s.list r).entries[(s.list r).position]? = some cur →
      ∃ t, exec (.listAdvance r) s = .next t
        ∧ t = { s with lists := t.lists, transitions := t.transitions, early := t.early }
        ∧ (∀ x, x ∈ t.early ↔ x ∈ s.early ∨ x = .list r ∨ ∃ o w, x = .transition o w ∧ cur ≠ src
            ∧ (s.activeWindow o w).map WindowRecord.content = some (.list r)
            ∧ (s.formerOf o w = none ∨ s.formerOf o w = some (some (.list r))))
        ∧ t.list r = { s.list r with
            position := ((s.list r).position + m) % (s.list r).entries.length, counter := (s.list r).dwell }
        ∧ (∀ r', r' ≠ r → t.list r' = s.list r')
        ∧ ∀ (o : Fin 4) (w : Fin 8), t.transition o w =
          (if (s.activeWindow o w).map WindowRecord.content = some (.list r)
              ∧ (s.formerOf o w = none ∨ s.formerOf o w = some (some (.list r))) then
            started (.source cur) (.source src) (s.list r).style
              (durationTaken (s.list r).style (s.list r).duration) (.list r)
          else s.transition o w)

/-- TIMEBASE: an invalid time is ignored. A valid one sets the clock; every entry in use is evaluated against it: it fires when it
matches with its flag clear, an entry that fires in mode ONCE becomes empty, every other one keeps whether it matched; the actions
of the firing entries are taken in index order, and CUE_FIRED is set if there is one (R150 to R154). -/
def Obligations.TimebaseEvaluatesTheCues : Prop :=
  ∀ (wd h m sec f : Byte) (s : State), s.trx.link = .sync →
    (¬ (wd.toNat ≤ 6 ∧ h.toNat ≤ 23 ∧ m.toNat ≤ 59 ∧ sec.toNat ≤ 59 ∧ f.toNat ≤ 59) →
      exec (.timebase wd h m sec f) s = .next (passedOn s))
    ∧ ((wd.toNat ≤ 6 ∧ h.toNat ≤ 23 ∧ m.toNat ≤ 59 ∧ sec.toNat ≤ 59 ∧ f.toNat ≤ 59) →
      ∀ (t : Clock) (fires : Fin 16 → Bool), t = ⟨wd.toNat, h.toNat, m.toNat, sec.toNat, f.toNat⟩ →
      (∀ c, fires c = true ↔ ∃ x, s.cue c = some x ∧ Matches x t ∧ x.matching = false) →
      ∃ u, exec (.timebase wd h m sec f) s = .next u
        ∧ u = passedOn { s with
            clock := some t, cues := u.cues
            outputs := (((List.finRange 16).filter fires).foldl (fun v c => match s.cue c with
              | some x => match x.action with
                | .recall n mask => recalled mask n v
                | .mode d mask => moded mask d v
              | none => v) s).outputs
            conditions := u.conditions }
        ∧ u.conditions = (((List.finRange 16).filter fires).foldl (fun v c => match s.cue c with
              | some x => match x.action with
                | .recall n mask => recalled mask n v
                | .mode d mask => moded mask d v
              | none => v) s).conditions ||| (if ∃ c, fires c = true then BitVec.twoPow 12 10 else 0#12)
        ∧ ∀ c, (s.cue c = none → u.cue c = none)
          ∧ ∀ x, s.cue c = some x →
            (fires c = true → x.mode = .once → u.cue c = none)
            ∧ ((fires c = false ∨ x.mode = .repeating) →
              (Matches x t → u.cue c = some { x with matching := true })
              ∧ (¬ Matches x t → u.cue c = some { x with matching := false })))

/-- CUESET writes an entry in use with its flag clear, and says whether the entry was in use and whether it matches the clock; a
fault refuses it, or has a broadcast ignored. CUEDROP empties an entry (R151, R156, R157). -/
def Obligations.CuesAreWrittenAndDropped : Prop :=
  ∀ (q : ReqHead) (cb : Byte) (raw : RawCue) (s : State),
    ((16 ≤ cb.toNat ∨ ¬ CueInRange raw) →
      (Hears q s → exec (.cueset q cb raw) s = .next (replied q 21 .range [] s))
      ∧ (Broadcast q s → exec (.cueset q cb raw) s = .next (passedOn s)))
    ∧ (16 ≤ cb.toNat →
      (Hears q s → exec (.cuedrop q cb) s = .next (replied q 22 .range [] s))
      ∧ (Broadcast q s → exec (.cuedrop q cb) s = .next (passedOn s)))
    ∧ ∀ c : Fin 16, Names cb c →
      (CueInRange raw → ∃ x, CueKeptAs raw x
        ∧ (∀ yes : Byte, (s.clock = none ∧ yes = 255#8 ∨ ∃ t, s.clock = some t ∧ (Matches x t ∧ yes = 1#8 ∨ ¬ Matches x t ∧ yes = 0#8)) →
          Hears q s → exec (.cueset q cb raw) s = .next (replied q 21 .done
            [if s.cue c = none then 0#8 else 1#8, yes] (s.setCue c (some x))))
        ∧ (Broadcast q s → exec (.cueset q cb raw) s = .next (passedOn (s.setCue c (some x)))))
      ∧ (Hears q s → exec (.cuedrop q cb) s = .next (replied q 22 .done
          [if s.cue c = none then 0#8 else 1#8] (s.setCue c none)))
      ∧ (Broadcast q s → exec (.cuedrop q cb) s = .next (passedOn (s.setCue c none)))

/-! ### Raster and genlock -/

/-- RASTER stages the raster its fields carry, each timing field plus one, when it is in range (R118, R177). -/
def Obligations.RasterIsStaged : Prop :=
  ∀ (q : ReqHead) (aw ah tw th : Half) (bg : Word) (s : State) (r : Raster),
    r = ⟨aw.toNat + 1, ah.toNat + 1, tw.toNat + 1, th.toNat + 1, colourOf bg⟩ →
    (RasterLegal r →
      (Hears q s → exec (.raster q aw ah tw th bg) s = .next (replied q 4 .armed
        [if s.rgu.staged = none then 0#8 else 1#8, genlockNumber s.rgu.genlock] (s.setRgu { s.rgu with staged := some r })))
      ∧ (Broadcast q s → exec (.raster q aw ah tw th bg) s = .next (passedOn (s.setRgu { s.rgu with staged := some r }))))
    ∧ (¬ RasterLegal r →
      (Hears q s → exec (.raster q aw ah tw th bg) s = .next (replied q 4 .range [] s))
      ∧ (Broadcast q s → exec (.raster q aw ah tw th bg) s = .next (passedOn s)))

/-- GENLOCK: none frees the part; a source whose store is LIVE is acquired, T kept; any other is answered NOTLIVE, and nothing
changes; leaving LOCKED sets LOCK_CHANGE (R120, R177). -/
def Obligations.GenlockChoosesTheReference : Prop :=
  ∀ (q : ReqHead) (sb : Byte) (s free acquired : State),
    free = { s with
      rgu := { s.rgu with genlock := .free, reference := none, trim := 0, nextCorr := 0, capture := none, lastE := none,
                          goodCount := 0, badCount := 0 }
      conditions := if s.rgu.genlock = .locked then s.conditions ||| BitVec.twoPow 12 8 else s.conditions } →
    (sb.toNat = 255 →
      (Hears q s → exec (.genlock q sb) s = .next (replied q 23 .done [0#8] free))
      ∧ (Broadcast q s → exec (.genlock q sb) s = .next (passedOn free)))
    ∧ (16 ≤ sb.toNat → sb.toNat ≠ 255 →
      (Hears q s → exec (.genlock q sb) s = .next (replied q 23 .range [] s))
      ∧ (Broadcast q s → exec (.genlock q sb) s = .next (passedOn s)))
    ∧ ∀ src : Fin 16, Names sb src →
      ((∀ i, (s.store i).binding = some src → (s.store i).state ≠ .live) →
        (Hears q s → exec (.genlock q sb) s = .next (replied q 23 .notLive [genlockNumber s.rgu.genlock] s))
        ∧ (Broadcast q s → exec (.genlock q sb) s = .next (passedOn s)))
      ∧ ∀ i, BoundAt s src i → (s.store i).state = .live →
        acquired = { s with
          rgu := { s.rgu with genlock := .acquire, reference := some src, capture := none, goodCount := 0, badCount := 0 }
          conditions := if s.rgu.genlock = .locked then s.conditions ||| BitVec.twoPow 12 8 else s.conditions } →
        (Hears q s → exec (.genlock q sb) s = .next (replied q 23 .done [1#8] acquired))
        ∧ (Broadcast q s → exec (.genlock q sb) s = .next (passedOn acquired))

/-- The three moves of the genlock state: the fourth good capture of ACQUIRE, the eighth of TRACK, the second bad one of LOCKED. Each sets
c and T by the state it leaves, puts both counts at 0, and sets LOCK_CHANGE when it enters or leaves LOCKED (R123, R124). Taking RGU's
genlock work as a step of its own is the model's choice (log 5, 23); c is kept beside the frame's until the output frame start, without the
blanking floor (log 18). -/
def Obligations.GenlockMovesByItsCounts : Prop :=
  ∀ (s : State) (e : Int), s.rgu.scan = .running → FrameEndMark.genlock ∉ s.early → s.rgu.staged = none →
    s.rgu.capture = some e →
    (s.rgu.genlock = .acquire → e.natAbs ≤ 2200 → 3 ≤ s.rgu.goodCount →
      exec .genlockTrack s = .next ({ s with
        rgu := { s.rgu with genlock := .track, goodCount := 0, badCount := 0, capture := none, lastE := some e,
                            nextCorr := clampTo 2200 (e.tdiv 4) } }.mark .genlock))
    ∧ (s.rgu.genlock = .track → e.natAbs ≤ 64 → 7 ≤ s.rgu.goodCount →
      exec .genlockLocked s = .next ((raised 8 { s with
        rgu := { s.rgu with genlock := .locked, goodCount := 0, badCount := 0, capture := none, lastE := some e,
                            nextCorr := clampTo 220 (e.tdiv 32), trim := clampTo 2200 (s.rgu.trim + e.tdiv 256) } }).mark .genlock))
    ∧ (s.rgu.genlock = .locked → 512 < e.natAbs → 1 ≤ s.rgu.badCount →
      exec .genlockUnlocked s = .next ((raised 8 { s with
        rgu := { s.rgu with genlock := .track, goodCount := 0, badCount := 0, capture := none, lastE := some e,
                            nextCorr := clampTo 220 (e.tdiv 32), trim := clampTo 2200 (s.rgu.trim + e.tdiv 256) } }).mark .genlock))

/-! ### Surveys -/

/-- SURVEY: n outside 1..255 is refused RANGE, a running survey BUSY; otherwise the records are cleared and n frames are left
(R145). -/
def Obligations.SurveyStarts : Prop :=
  ∀ (q : ReqHead) (n : Byte) (s : State),
    (Broadcast q s → exec (.survey q n) s = .next (passedOn s))
    ∧ (Hears q s →
      (n.toNat = 0 → exec (.survey q n) s = .next (replied q 24 .range [] s))
      ∧ (n.toNat ≠ 0 → s.survey.state = .running → exec (.survey q n) s = .next (replied q 24 .busy [] s))
      ∧ (n.toNat ≠ 0 → s.survey.state ≠ .running → exec (.survey q n) s = .next (replied q 24 .done []
          { s with survey := ⟨.running, n.toNat, Vector.replicate 16 ⟨0, 0, none⟩⟩ })))

/-- SURVEYREAD answers a record, in IDLE and DONE (R147, §11.6); it changes no state. -/
def Obligations.SurveyreadReportsARecord : Prop :=
  ∀ (q : ReqHead) (sb : Byte) (s : State),
    (Broadcast q s → exec (.surveyread q sb) s = .next (passedOn s))
    ∧ (Hears q s →
      (16 ≤ sb.toNat → exec (.surveyread q sb) s = .next (replied q 25 .range [] s))
      ∧ (sb.toNat < 16 → s.survey.state = .running → exec (.surveyread q sb) s = .next (replied q 25 .busy [] s))
      ∧ ∀ src : Fin 16, Names sb src → s.survey.state ≠ .running → ∀ rec, tget s.survey.records src = rec →
        ∃ r : List Byte, exec (.surveyread q sb) s = .next (replied q 25 .done r s)
          ∧ r.length = 10 ∧ halfAt r 0 = BitVec.ofNat 16 rec.pics ∧ halfAt r 2 = BitVec.ofNat 16 rec.opens
          ∧ (rec.last = none → byteAt r 4 = 0#8)
          ∧ ∀ f, rec.last = some f → byteAt r 4 = 1#8 ∧ halfAt r 5 = BitVec.ofNat 16 f.width
              ∧ halfAt r 7 = BitVec.ofNat 16 f.height ∧ byteAt r 9 = f.tag)

/-! ### The trunk -/

/-- ENUM: an unassigned part takes a next address of 1..30 and sends the cell on with the next address incremented; in every other
case the cell goes on unchanged (R140). -/
def Obligations.EnumAssignsTheAddress : Prop :=
  ∀ (next : Byte) (s : State), s.trx.link = .sync →
    (s.address = none → 1 ≤ next.toNat → next.toNat ≤ 30 →
      exec (.enumCell next) s = .next { s with
        trx := { s.trx with consecErrors := 0 }, address := some next
        fwd := ⟨.enumNext (BitVec.ofNat 8 (next.toNat + 1)), false⟩ })
    ∧ ((s.address ≠ none ∨ next.toNat = 0 ∨ 31 ≤ next.toNat) → exec (.enumCell next) s = .next (passedOn s))

/-- Headers and the link state: a cell no block uses goes on unchanged; a failed header in SYNC is counted, sets LINK_ERROR and is
replaced by FILL, and the fourth in a row sends the link to HUNT with LINK_RESYNC, at any boundary; in HUNT the second good header in
a row brings SYNC, and a failed one moves the boundary one byte on (R132, R133, R134). That the fourth failed header and the
second good one are also commands of their own is the model's choice (log 5), as is the free value of the boundary (log 9). -/
def Obligations.HeadersMoveTheLink : Prop :=
  ∀ s : State,
    (s.trx.link = .sync →
      (∀ kind, exec (.forwardCell kind) s = .next (passedOn s))
      ∧ (s.trx.consecErrors < 3 →
          exec .headerError s = .next (raised 0 { s with
            trx := { s.trx with headerErrors := bumped s.trx.headerErrors, consecErrors := s.trx.consecErrors + 1 }
            fwd := ⟨.fill, false⟩ }))
      ∧ (3 ≤ s.trx.consecErrors → ∃ (b : Fin 1008) (n : Nat) (t : State),
          t = raised 1 (raised 0 { s with
            trx := { s.trx with link := .hunt, goodRun := 0, consecErrors := 0,
                                headerErrors := bumped s.trx.headerErrors, boundary := b }
            fwd := ⟨.fill, false⟩, freeCount := n })
          ∧ exec .headerError s = .next t ∧ exec .linkHunt s = .next t))
    ∧ (s.trx.link = .hunt → s.trx.brk = none → ∀ (header : List Byte) (check : Half),
      (headerCheck header = check → s.trx.goodRun = 0 →
        exec (.huntHeaderCheck header check) s = .next { s with
          trx := { s.trx with goodRun := 1 }, fwd := ⟨.fill, false⟩ })
      ∧ (headerCheck header = check → 1 ≤ s.trx.goodRun →
        exec (.huntHeaderCheck header check) s = .next { s with
          trx := { s.trx with link := .sync, goodRun := 2, consecErrors := 0 }, fwd := ⟨.fill, false⟩ })
      ∧ (1 ≤ s.trx.goodRun →
        exec .syncReached s = .next { s with
          trx := { s.trx with link := .sync, goodRun := 2, consecErrors := 0 }, fwd := ⟨.fill, false⟩ })
      ∧ (headerCheck header ≠ check → ∀ b : Fin 1008, b.val = (s.trx.boundary.val + 1) % 1008 →
        exec (.huntHeaderCheck header check) s = .next { s with
          trx := { s.trx with goodRun := 0, boundary := b }, fwd := ⟨.fill, false⟩ }))

/-- Signal and breaks: the loss of the signal takes the link DOWN, cutting short the cell partly sent, its return to HUNT; a break
puts it in HUNT, repeats break symbols, and ends in a search for a boundary; LINK_RESYNC is set when the trouble began in SYNC and no
chain break was taken. A break that reaches 10 µs takes the address, aborts the survey and sets CHAIN_BREAK, once in a break
(R131, R135, R136). The model's choices: that the 10 µs are a command, which begins the break where no command did (log 15); the free
value of the boundary (log 9); how a cell cut short is written down (log 12); and that the loss and the return of the signal keep the
counts that no rule sets (log 25). -/
def Obligations.SignalAndBreaks : Prop :=
  ∀ s : State,
    (s.trx.link ≠ .down → s.trx.brk = none →
      exec .lossOfSignal s = .next { s with
        trx := { s.trx with link := .down }, fwd := ⟨.fill, true⟩
        conditions := if s.trx.link = .sync then s.conditions ||| BitVec.twoPow 12 1 else s.conditions })
    ∧ (s.trx.link ≠ .down → ∀ b, s.trx.brk = some b →
      exec .lossOfSignal s = .next { s with
        trx := { s.trx with link := .down, brk := none }, fwd := ⟨.fill, false⟩
        conditions := if b.fromSync = true ∧ b.long = false then s.conditions ||| BitVec.twoPow 12 1 else s.conditions })
    ∧ (s.trx.link = .down → ∃ (b : Fin 1008) (n : Nat),
      exec .signalReceived s = .next { s with
        trx := { s.trx with link := .hunt, goodRun := 0, boundary := b }, fwd := ⟨.fill, false⟩, freeCount := n })
    ∧ (s.trx.brk = none →
      exec .breakStart s = .next { s with
        trx := { s.trx with link := .hunt, goodRun := 0, consecErrors := 0, brk := some ⟨decide (s.trx.link = .sync), false⟩ }
        fwd := ⟨.breakSymbols, true⟩ })
    ∧ (∀ k, s.trx.brk = some k → ∃ (b : Fin 1008) (n : Nat),
      exec .breakEnd s = .next { s with
        trx := { s.trx with link := .hunt, goodRun := 0, brk := none, boundary := b }, fwd := ⟨.fill, false⟩, freeCount := n
        conditions := if k.fromSync = true ∧ k.long = false then s.conditions ||| BitVec.twoPow 12 1 else s.conditions })
    ∧ (∀ k, s.trx.brk = some k → k.long = false →
      exec .chainBreak s = .next (raised 2 { s with
        trx := { s.trx with goodRun := 0, consecErrors := 0, brk := some { k with long := true } }
        address := none, survey := ⟨.idle, 0, Vector.replicate 16 ⟨0, 0, none⟩⟩ }))
    ∧ (s.trx.brk = none →
      exec .chainBreak s = .next (raised 2 { s with
        trx := { s.trx with link := .hunt, goodRun := 0, consecErrors := 0, brk := some ⟨decide (s.trx.link = .sync), true⟩ }
        fwd := ⟨.breakSymbols, true⟩
        address := none, survey := ⟨.idle, 0, Vector.replicate 16 ⟨0, 0, none⟩⟩ }))
    ∧ ∀ k, s.trx.brk = some k → k.long = true → exec .chainBreak s = .next s

/-! ### Picture traffic -/

/-- FRAME-OPEN, as every block but STM takes it: SVU counts it, RGU reaches its tick, and takes a capture of a FRAME-OPEN of the
reference source, with the phase error of its tick; no store is bound to the source, or the store's fields are out of range and the
cell is stray (R54, R70, R121, R122, R144). The model's choices: that the arrival's tick is an operand, to which the raster moves (log 7),
and that the scan-out fetches of that tick are raised there, the samples and the grant of the tick before being over (log 28). -/
def Obligations.FrameOpenIsSeen : Prop :=
  ∀ (sb tag : Byte) (w h n : Half) (tick : Nat) (s : State), s.trx.link = .sync →
    (16 ≤ sb.toNat → exec (.frameOpen sb tag w h n tick) s = .next (passedOn (atTick tick s)))
    ∧ ∀ src : Fin 16, Names sb src →
      (Unbound s src → exec (.frameOpen sb tag w h n tick) s = .next (passedOn (openSeen src tag w h tick s)))
      ∧ (∀ i, BoundAt s src i → ¬ OpenInRange w h n →
        exec (.frameOpen sb tag w h n tick) s = .next (passedOn ((openSeen src tag w h tick s).setStore i
          { s.store i with silence := 0, stray := bumped (s.store i).stray })))

/-- FRAME-OPEN in range, as STM takes it: a FILLING slot has lost its close; then the lowest EMPTY or DAMAGED candidate is chosen,
else the oldest COMPLETE candidate but the newest, else the newest, whose frame is lost; with no candidate the frame is dropped whole
(R55, R56, R70). The model's choices: that the raster moves to the tick the command carries (log 7), and that the scan-out fetches of that
tick are raised there, the samples and the grant of the tick before being over (log 28). -/
def Obligations.FrameOpenChoosesASlot : Prop :=
  ∀ (sb tag : Byte) (w h n : Half) (tick : Nat) (s : State) (src : Fin 16) (i : Fin 8), s.trx.link = .sync → Names sb src →
    BoundAt s src i → OpenInRange w h n → StoreLegal (s.store i) →
    ∀ (u : State) (st : Store), OpenReady i (openSeen src tag w h tick s) u st →
      (∀ k, Vacant (st.slot k) → (∀ j, j < k → ¬ Vacant (st.slot j)) →
        exec (.frameOpen sb tag w h n tick) s = .next (passedOn (u.setStore i
          (withFrame st k ⟨.filling, tag, w.toNat, h.toNat, n.toNat, 0⟩))))
      ∧ ((∀ j, ¬ Vacant (st.slot j)) →
        (∀ k m, Superseded st k m → (∀ j m', Superseded st j m' → m ≤ m') →
          exec (.frameOpen sb tag w h n tick) s = .next (passedOn (u.setStore i
            (withFrame st k ⟨.filling, tag, w.toNat, h.toNat, n.toNat, 0⟩))))
        ∧ ((∀ j m, ¬ Superseded st j m) →
          (∀ k m, Candidate (st.slot k) → CompleteAs (st.slot k) m →
            exec (.frameOpen sb tag w h n tick) s = .next (passedOn (raised 5 (u.setStore i
              { withFrame st k ⟨.filling, tag, w.toNat, h.toNat, n.toNat, 0⟩ with dropped := bumped st.dropped }))))
          ∧ ((∀ j, ¬ Candidate (st.slot j)) →
            exec (.frameOpen sb tag w h n tick) s = .next (passedOn (raised 5 (u.setStore i
              { st with dropped := bumped st.dropped, dropping := true }))))))

/-- PIC: counted by SVU; of a bound source, it returns the silence counter to 0; then it is discarded under the dropping mark, stray,
out of order, without room, or accepted into the write queue (R54, R56, R57, R70, R144). -/
def Obligations.PicIsTaken : Prop :=
  ∀ (sb tag : Byte) (sq line first : Half) (count : Byte) (px : List Word) (s : State), s.trx.link = .sync → px.length = 240 →
    (16 ≤ sb.toNat → exec (.pic sb tag sq line first count px) s = .next (passedOn s))
    ∧ ∀ (src : Fin 16) (v : State), Names sb src →
      v = { s with survey := surveyed src (fun r => { r with pics := bumped r.pics }) s.survey } →
      (Unbound s src → exec (.pic sb tag sq line first count px) s = .next (passedOn v))
      ∧ ∀ (i : Fin 8) (st : Store), BoundAt s src i → st = { s.store i with silence := 0 } →
        (st.dropping = true → exec (.pic sb tag sq line first count px) s = .next (passedOn (v.setStore i st)))
        ∧ (st.dropping = false → (¬ PicInRange line first count ∨ NoneFilling st tag) →
          exec (.pic sb tag sq line first count px) s = .next (passedOn (v.setStore i { st with stray := bumped st.stray })))
        ∧ (st.dropping = false → PicInRange line first count → ∀ k f, FillingAt st k f → f.tag = tag →
          ((sq.toNat ≠ f.next ∨ f.cells ≤ sq.toNat) →
            exec (.pic sb tag sq line first count px) s = .next (passedOn (raised 4 (v.setStore i (damagedAt st k f)))))
          ∧ (sq.toNat = f.next → sq.toNat < f.cells → 48 ≤ s.queue.length →
            exec (.pic sb tag sq line first count px) s = .next (passedOn (raised 3 (raised 4 (v.setStore i (damagedAt st k f))))))
          ∧ (sq.toNat = f.next → sq.toNat < f.cells → s.queue.length < 48 →
            exec (.pic sb tag sq line first count px) s = .next (passedOn { v.setStore i
                (withFrame st k { f with next := f.next + 1 }) with
              queue := s.queue ++ [.pic i k line.toNat first.toNat ((px.take count.toNat).map colourOf)] })))

/-- FRAME-CLOSE: of a bound source, it returns the silence counter to 0; then it is discarded under the dropping mark, stray, of
another count, without room, or its marker joins the write queue and its slot is CLOSING (R54, R56, R58, R70). -/
def Obligations.FrameCloseIsTaken : Prop :=
  ∀ (sb tag : Byte) (sent : Half) (s : State), s.trx.link = .sync →
    (16 ≤ sb.toNat → exec (.frameClose sb tag sent) s = .next (passedOn s))
    ∧ ∀ src : Fin 16, Names sb src →
      (Unbound s src → exec (.frameClose sb tag sent) s = .next (passedOn s))
      ∧ ∀ (i : Fin 8) (st : Store), BoundAt s src i → st = { s.store i with silence := 0 } →
        (st.dropping = true → exec (.frameClose sb tag sent) s = .next (passedOn (s.setStore i st)))
        ∧ (st.dropping = false → NoneFilling st tag →
          exec (.frameClose sb tag sent) s = .next (passedOn (s.setStore i { st with stray := bumped st.stray })))
        ∧ (st.dropping = false → ∀ k f, FillingAt st k f → f.tag = tag →
          ((sent.toNat ≠ f.next ∨ f.next ≠ f.cells) →
            exec (.frameClose sb tag sent) s = .next (passedOn (raised 4 (s.setStore i (damagedAt st k f)))))
          ∧ (sent.toNat = f.next → f.next = f.cells → 48 ≤ s.queue.length →
            exec (.frameClose sb tag sent) s = .next (passedOn (raised 3 (raised 4 (s.setStore i (damagedAt st k f))))))
          ∧ (sent.toNat = f.next → f.next = f.cells → s.queue.length < 48 →
            exec (.frameClose sb tag sent) s = .next (passedOn { s.setStore i (withFrame st k { f with phase := .closing }) with
              queue := s.queue ++ [.close i k] })))

/-- FMC and PIC_WRITE. When a grant is free, FMC grants the fetch that has waited longest, of the lowest-numbered output among equals; with
no fetch waiting, the head of the queue; in the power-on fill, nothing. A PIC_WRITE or a COMPLETION grants the queue's head after every
waiting fetch, each of which gets its output the pixel of the present tick. At a PIC_WRITE the head of the queue leaves it, its pixels
stand along its line from its first pixel, none at column 1920 or beyond, and every other address of frame memory reads as before; no two
of the pixels that the slots have room for share an address (R43, R45, R46, R60). The model's choices: that a PIC_WRITE or a COMPLETION
sent while fetches wait grants them all within its one step, before the queue's head (log 8), the tick at which a fetch is raised (log 28),
and frame memory's canonical form and its numbering (log 10). -/
def Obligations.PicWriteWritesItsRun : Prop :=
  (∀ (s : State) (i : Fin 8) (k : Fin 3) (line first : Nat) (px : List Colour) (rest : List QueueEntry), s.rgu.scan ≠ .fill →
    s.fmc.fetches = [] → MemoryLegal s → s.queue = .pic i k line first px :: rest → line ≤ 1199 →
    ∃ m, exec .picWrite s = .next { s with queue := rest, memory := m, fmc := ⟨[], some .queueHead⟩ }
      ∧ memWf m = true
      ∧ (∀ n c, px[n]? = some c → first + n < 1920 → memRead m (position i k line (first + n)) = c)
      ∧ ∀ a, (∀ n, n < px.length → first + n < 1920 → a ≠ position i k line (first + n)) → memRead m a = memRead s.memory a)
    ∧ (∀ (i i' : Fin 8) (k k' : Fin 3) (line line' column column' : Nat),
      line < 1200 → line' < 1200 → column < 1920 → column' < 1920 →
      position i k line column = position i' k' line' column' → i = i' ∧ k = k' ∧ line = line' ∧ column = column')
    ∧ (∀ s : State, s.rgu.scan ≠ .fill → ∃ t : State, t = { s with fmc := t.fmc, samples := t.samples }
      ∧ t.fmc.fetches = []
      ∧ (∀ o, (∃ f ∈ s.fmc.fetches, f.output = o) → tget t.samples o = s.scanPixel o)
      ∧ (∀ o, (∀ f ∈ s.fmc.fetches, f.output ≠ o) → tget t.samples o = tget s.samples o)
      ∧ (∀ i k line first px rest, s.queue = .pic i k line first px :: rest → exec .picWrite s = exec .picWrite t)
      ∧ ∀ i k rest, s.queue = .close i k :: rest → exec .completion s = exec .completion t)
    ∧ (∀ s : State,
      (s.rgu.scan = .fill → s.arbitrate = none)
      ∧ (s.rgu.scan ≠ .fill →
        (∀ f, s.arbitrate = some (.fetch f) ↔ f ∈ s.fmc.fetches
          ∧ ∀ g ∈ s.fmc.fetches, f.raised < g.raised ∨ (f.raised = g.raised ∧ f.output ≤ g.output))
        ∧ (s.arbitrate = some .queueHead ↔ s.fmc.fetches = [] ∧ s.queue ≠ []))
      ∧ ∀ f, s.arbitrate = some (.fetch f) → serveFetches s = serveFetches (grantFetch f s))
    ∧ ∀ (s : State) (f : Fetch), f ∈ s.raisedFetches ↔ f.raised = s.rgu.tick ∧ ∃ x y p, s.scanPosition = some (x, y)
      ∧ tget s.plans f.output = some p ∧ p.mode = .showing
      ∧ ∃ e ∈ p.entries, Covers p e x y ∧ (∃ i j w h, InnerAt e x y i j w h)
        ∧ ((∃ side, e.drawing = .single side ∧ Sampled e.crop side)
          ∨ ∃ a b st d n, e.drawing = .mixed a b st d n ∧ (Sampled e.crop a ∨ Sampled e.crop b))

/-- COMPLETION, with no fetch waiting: the close marker leaves the queue and its slot is COMPLETE with the next completion number, the frame
counted and the store LIVE; at the counter's greatest value the store's other COMPLETE slots are first renumbered in their order
(R53, R61, R70). -/
def Obligations.CompletionCompletesTheSlot : Prop :=
  ∀ (s : State) (i : Fin 8) (k : Fin 3) (rest : List QueueEntry) (f : FrameInfo), s.rgu.scan ≠ .fill →
    s.fmc.fetches = [] →
    s.queue = .close i k :: rest → ((s.store i).slot k).frame = some f → f.phase = .closing → (s.store i).state ≠ .unbound →
    ((s.store i).completions < 4294967295 →
      exec .completion s = .next { s.setStore i
          { withFrame (s.store i) k { f with phase := .complete ((s.store i).completions + 1) } with
            completions := (s.store i).completions + 1, completed := bumped (s.store i).completed, state := .live } with
        queue := rest, fmc := ⟨[], some .queueHead⟩ })
    ∧ ((s.store i).completions = 4294967295 → StoreLegal (s.store i) → ∃ slots : Vector SlotRecord 3, ∃ m : Nat,
      m = ((List.finRange 3).filter (fun j => ((s.store i).slot j).number?.isSome)).length
      ∧ exec .completion s = .next { s.setStore i { s.store i with
            slots := slots, completions := m + 1, completed := bumped (s.store i).completed, state := .live } with
          queue := rest, fmc := ⟨[], some .queueHead⟩ }
      ∧ tget slots k = { (s.store i).slot k with frame := some { f with phase := .complete (m + 1) } }
      ∧ ∀ j, j ≠ k →
        ((∀ a, ¬ CompleteAs ((s.store i).slot j) a) → tget slots j = (s.store i).slot j)
        ∧ ∀ g a, ((s.store i).slot j).frame = some g → g.phase = .complete a →
          ((∀ l b, CompleteAs ((s.store i).slot l) b → a ≤ b) →
            tget slots j = { (s.store i).slot j with frame := some { g with phase := .complete 1 } })
          ∧ ∀ l b, CompleteAs ((s.store i).slot l) b → b < a →
            tget slots j = { (s.store i).slot j with frame := some { g with phase := .complete 2 } })

/-! ### The output frame -/

/-- Parts of an output frame end taken as steps of their own: SVU's last frame, the end of a transition, and a store that goes STALE
or LOST. Each leaves a mark, so that the output frame end does not take the part again: the model's choice (log 5); the work is that
of R66, R78 and R146. -/
def Obligations.FrameEndStepsOfTheirOwn : Prop :=
  ∀ s : State, s.rgu.scan = .running →
    (FrameEndMark.survey ∉ s.early → s.survey.state = .running → s.survey.framesLeft ≤ 1 →
      exec .surveyDone s = .next ({ s with survey := { s.survey with state := .done, framesLeft := 0 } }.mark .survey))
    ∧ (∀ o w t, FrameEndMark.transition o w ∉ s.early → s.transition o w = .running t → t.duration ≤ t.position + 1 →
      exec (.transitionEnd o w) s = .next ((s.setTransition o w .idle).mark (.transition o w)))
    ∧ ∀ i src, (s.store i).binding = some src →
      (GoesStale s i → exec (.sourceStale i) s = .next ((leftLive src (raised 6 (s.setStore i
        { s.store i with silence := silenceAfter s i, state := .stale }))).mark (.silence i)))
      ∧ (GoesLost s i → (s.store i).state = .live → exec (.sourceLost i) s = .next ((leftLive src (raised 7 (s.setStore i
        { s.store i with silence := silenceAfter s i, state := .lost }))).mark (.silence i)))
      ∧ (GoesLost s i → (s.store i).state = .stale → exec (.sourceLost i) s = .next ((raised 7 (s.setStore i
        { s.store i with silence := silenceAfter s i, state := .lost })).mark (.silence i)))

/-- The output frame end, in any order of its blocks: every armed output swaps its banks and every other keeps them, a survey counts
down, the frame is counted, the frame is over, and the trunk, the address, the queue, frame memory, the clock, the cues and the plans
stay as they were (R14, R115, R116, R146). The model's: that the order is an operand (log 6), that a survey already taken is marked and
not counted again (log 5), that L, c and the tick keep the ended frame's values (log 16), and that FMC then has no fetch waiting and no
grant in progress (log 28). -/
def Obligations.FrameEndSwapsAndCounts : Prop :=
  ∀ (order : List FrameEndPart) (s : State), s.rgu.scan = .running → ∃ t : State,
    exec (.outputFrameEnd order) s = .next t
      ∧ t = { s with fmc := ⟨[], none⟩, samples := Vector.replicate 4 none,
                     stores := t.stores, rgu := t.rgu, outputs := t.outputs, transitions := t.transitions,
                     former := Vector.replicate 4 (Vector.replicate 8 none), freezes := t.freezes, lists := t.lists,
                     survey := t.survey, conditions := t.conditions, early := [] }
      ∧ (t.rgu.scan = .between ∧ t.rgu.length = s.rgu.length ∧ t.rgu.corr = s.rgu.corr ∧ t.rgu.tick = s.rgu.length - 1)
      ∧ (s.rgu.counter < 4294967295 → t.rgu.counter = s.rgu.counter + 1)
      ∧ (s.rgu.counter = 4294967295 → t.rgu.counter = 0)
      ∧ (∀ o, t.output o = (if (s.output o).armed = true then
          { s.output o with active := (s.output o).pending, armed := false, dirty := false } else s.output o))
      ∧ ((s.survey.state ≠ .running ∨ FrameEndMark.survey ∈ s.early) → t.survey = s.survey)
      ∧ (s.survey.state = .running → FrameEndMark.survey ∉ s.early → 1 ≤ s.survey.framesLeft →
          t.survey = { s.survey with framesLeft := s.survey.framesLeft - 1,
                                     state := if s.survey.framesLeft = 1 then .done else .running })
      ∧ ∀ n : Nat, (s.conditions.getLsbD n = true → t.conditions.getLsbD n = true)
          ∧ ((n < 6 ∨ 9 < n) → t.conditions.getLsbD n = s.conditions.getLsbD n)

/-- The stores at an output frame end, in any order of its blocks: silence is counted, LIVE and STALE stores go STALE or LOST by their
limits, and the selection is the newest COMPLETE slot; frames, bindings and counters stay (R62, R66). When the genlock reference's store
goes out of LIVE so, genlock is FREE with T and c 0, and REFERENCE_LOST is set, with LOCK_CHANGE if the state was LOCKED (R68, R125).
That a store whose silence was counted by a command of its own is not counted again is the model's (log 5). -/
def Obligations.FrameEndCountsSilenceAndSelects : Prop :=
  ∀ (order : List FrameEndPart) (s : State), s.rgu.scan = .running → (∀ i, StoreLegal (s.store i)) → ∃ t : State,
    exec (.outputFrameEnd order) s = .next t
      ∧ (t.conditions.getLsbD 6 = true ↔ s.conditions.getLsbD 6 = true ∨ ∃ i, GoesStale s i)
      ∧ (t.conditions.getLsbD 7 = true ↔ s.conditions.getLsbD 7 = true ∨ ∃ i, GoesLost s i)
      ∧ (t.conditions.getLsbD 9 = true ↔ s.conditions.getLsbD 9 = true ∨ (s.rgu.genlock ≠ .free ∧ ReferenceGoes s))
      ∧ (s.rgu.genlock ≠ .free → ReferenceGoes s →
          t.rgu.genlock = .free ∧ t.rgu.reference = none ∧ t.rgu.trim = 0 ∧ t.rgu.nextCorr = 0 ∧ t.rgu.capture = none
            ∧ t.rgu.lastE = none ∧ t.rgu.goodCount = 0 ∧ t.rgu.badCount = 0
            ∧ (s.rgu.genlock = .locked → t.conditions.getLsbD 8 = true))
      ∧ ∀ i, t.store i = { s.store i with silence := (t.store i).silence, state := (t.store i).state, slots := (t.store i).slots }
        ∧ (((s.store i).binding = none ∨ FrameEndMark.silence i ∈ s.early) → (t.store i).silence = (s.store i).silence)
        ∧ ((s.store i).binding ≠ none → FrameEndMark.silence i ∉ s.early → (t.store i).silence = silenceAfter s i)
        ∧ (GoesStale s i → (t.store i).state = .stale) ∧ (GoesLost s i → (t.store i).state = .lost)
        ∧ (¬ GoesStale s i → ¬ GoesLost s i → (t.store i).state = (s.store i).state)
        ∧ ∀ k, ((t.store i).slot k).frame = ((s.store i).slot k).frame
          ∧ (((t.store i).slot k).selected = true ↔ NewestComplete (s.store i) k)

/-- The rotation lists at an output frame end, in any order of its blocks: a staged ROTSET is applied whole, with a CUT on each window
bound to the list, from its current entry, or, where the list was empty, from the window's fallback colour or the background, as they stand
before or after this output frame end's swap and raster change; otherwise the dwell is counted, and when it runs out the list moves to the
first other position whose source is LIVE, before or after this output frame end's silence count, and each window bound to it stands at f 0
of the list's transition; with no such position it stays; the counter is reloaded in either case (R74, R78, R79, R82, R106, R107, R108,
R109). The model's: that a list whose part was taken by a command of its own is left alone (log 5), and that the order of the blocks
decides the colour from which a window of an empty list cuts (log 30). -/
def Obligations.FrameEndTakesTheLists : Prop :=
  ∀ (order : List FrameEndPart) (s : State), s.rgu.scan = .running → ∃ (t : State) (live : Fin 16 → Bool),
    exec (.outputFrameEnd order) s = .next t
      ∧ ((∀ src, live src = s.sourceLive src) ∨ ∀ src, live src = t.sourceLive src)
      ∧ ∀ r, (FrameEndMark.list r ∈ s.early → t.list r = s.list r)
        ∧ (FrameEndMark.list r ∉ s.early →
          (∀ st, (s.list r).staged = some st →
            t.list r = ⟨st.entries, st.dwell, st.style, st.duration, 0, st.dwell, none⟩
            ∧ (∀ o w first cur, st.entries[0]? = some first → (s.list r).entries[(s.list r).position]? = some cur →
              Holds s o w (.list r) → s.formerOf o w = none → s.freeze o w = .none →
              t.transition o w = started (.source cur) (.source first) .cut 1 (.list r))
            ∧ ∀ o w first, st.entries[0]? = some first → (s.list r).entries = [] →
              Holds s o w (.list r) → s.formerOf o w = none → s.freeze o w = .none →
              ∃ x bg, (s.activeWindow o w = some x ∨ t.activeWindow o w = some x)
                ∧ (bg = s.rgu.raster.background ∨ bg = t.rgu.raster.background)
                ∧ t.transition o w = started (.colour (x.fallback.getD bg)) (.source first) .cut 1 (.list r))
          ∧ ((s.list r).staged = none →
            ((s.list r).entries = [] → t.list r = s.list r)
            ∧ ((s.list r).entries ≠ [] → 1 < (s.list r).counter →
              t.list r = { s.list r with counter := (s.list r).counter - 1 })
            ∧ ((s.list r).entries ≠ [] → (s.list r).counter ≤ 1 →
              ((∀ m src, 1 ≤ m → m < (s.list r).entries.length →
                  (s.list r).entries[((s.list r).position + m) % (s.list r).entries.length]? = some src → live src = false) →
                t.list r = { s.list r with counter := (s.list r).dwell })
              ∧ ∀ m src, 1 ≤ m → m < (s.list r).entries.length →
                (s.list r).entries[((s.list r).position + m) % (s.list r).entries.length]? = some src → live src = true →
                (∀ m' src', 1 ≤ m' → m' < m →
                  (s.list r).entries[((s.list r).position + m') % (s.list r).entries.length]? = some src' → live src' = false) →
                t.list r = { s.list r with
                  position := ((s.list r).position + m) % (s.list r).entries.length, counter := (s.list r).dwell }
                ∧ ∀ o w cur, (s.list r).entries[(s.list r).position]? = some cur →
                  Holds s o w (.list r) → s.formerOf o w = none → s.freeze o w = .none →
                  t.transition o w = started (.source cur) (.source src) (s.list r).style
                    (durationTaken (s.list r).style (s.list r).duration) (.list r))))

/-- RGU at an output frame end, in any order of its blocks, while no silence count takes the reference out of LIVE. A staged raster is
applied: while genlock is not FREE it acquires anew, with T and c 0 and the last e kept. With none staged, c, T and the counts follow the
capture and the genlock state (R119, R123, R124). That nothing of this is done again where RGU has taken its part by a command of its own,
so that a raster staged since waits for the following output frame end (R118), is the model's (log 5, 23), as is that c is kept without the
blanking floor until the output frame start (log 18). -/
def Obligations.FrameEndTakesRasterAndGenlock : Prop :=
  ∀ (order : List FrameEndPart) (s : State), s.rgu.scan = .running → ¬ ReferenceGoes s → ∃ t : State,
    exec (.outputFrameEnd order) s = .next t ∧ t.rgu.reference = s.rgu.reference
      ∧ (FrameEndMark.genlock ∈ s.early → t.rgu.raster = s.rgu.raster ∧ t.rgu.staged = s.rgu.staged
          ∧ t.rgu.genlock = s.rgu.genlock ∧ t.rgu.trim = s.rgu.trim ∧ t.rgu.nextCorr = s.rgu.nextCorr
          ∧ t.rgu.capture = s.rgu.capture ∧ t.rgu.lastE = s.rgu.lastE ∧ t.rgu.goodCount = s.rgu.goodCount
          ∧ t.rgu.badCount = s.rgu.badCount)
      ∧ (∀ r, s.rgu.staged = some r → FrameEndMark.genlock ∉ s.early → t.rgu.raster = r ∧ t.rgu.staged = none ∧ t.rgu.lastE = s.rgu.lastE
          ∧ (s.rgu.genlock = .free → t.rgu.genlock = .free)
          ∧ (s.rgu.genlock ≠ .free → t.rgu.genlock = .acquire ∧ t.rgu.trim = 0 ∧ t.rgu.nextCorr = 0 ∧ t.rgu.capture = none
              ∧ t.rgu.goodCount = 0 ∧ t.rgu.badCount = 0)
          ∧ (s.rgu.genlock = .locked → t.conditions.getLsbD 8 = true))
      ∧ (s.rgu.staged = none → t.rgu.raster = s.rgu.raster ∧ t.rgu.staged = none
        ∧ (FrameEndMark.genlock ∉ s.early →
          t.rgu.capture = none
          ∧ (s.rgu.genlock = .free → t.rgu.genlock = .free ∧ t.rgu.nextCorr = 0 ∧ t.rgu.trim = 0)
          ∧ (s.rgu.genlock ≠ .free → s.rgu.capture = none →
              t.rgu.genlock = s.rgu.genlock ∧ t.rgu.nextCorr = 0 ∧ t.rgu.trim = s.rgu.trim ∧ t.rgu.goodCount = 0
                ∧ t.rgu.badCount = 0 ∧ t.rgu.lastE = s.rgu.lastE)
          ∧ ∀ e, s.rgu.capture = some e →
            (s.rgu.genlock ≠ .free → t.rgu.lastE = some e)
            ∧ (s.rgu.genlock = .acquire → t.rgu.nextCorr = clampTo 2200 (e.tdiv 4) ∧ t.rgu.trim = s.rgu.trim
              ∧ (2200 < e.natAbs → t.rgu.genlock = .acquire ∧ t.rgu.goodCount = 0)
              ∧ (e.natAbs ≤ 2200 → s.rgu.goodCount < 3 → t.rgu.genlock = .acquire ∧ t.rgu.goodCount = s.rgu.goodCount + 1)
              ∧ (e.natAbs ≤ 2200 → s.rgu.goodCount = 3 → t.rgu.genlock = .track ∧ t.rgu.goodCount = 0 ∧ t.rgu.badCount = 0))
            ∧ (s.rgu.genlock = .track ∨ s.rgu.genlock = .locked →
              t.rgu.nextCorr = clampTo 220 (e.tdiv 32) ∧ t.rgu.trim = clampTo 2200 (s.rgu.trim + e.tdiv 256))
            ∧ (s.rgu.genlock = .track →
              (64 < e.natAbs → t.rgu.genlock = .track ∧ t.rgu.goodCount = 0)
              ∧ (e.natAbs ≤ 64 → s.rgu.goodCount < 7 → t.rgu.genlock = .track ∧ t.rgu.goodCount = s.rgu.goodCount + 1)
              ∧ (e.natAbs ≤ 64 → s.rgu.goodCount = 7 → t.rgu.genlock = .locked ∧ t.rgu.goodCount = 0 ∧ t.rgu.badCount = 0
                ∧ t.conditions.getLsbD 8 = true))
            ∧ (s.rgu.genlock = .locked →
              (e.natAbs ≤ 512 → t.rgu.genlock = .locked ∧ t.rgu.badCount = 0)
              ∧ (512 < e.natAbs → s.rgu.badCount = 0 → t.rgu.genlock = .locked ∧ t.rgu.badCount = 1)
              ∧ (512 < e.natAbs → s.rgu.badCount = 1 → t.rgu.genlock = .track ∧ t.rgu.goodCount = 0 ∧ t.rgu.badCount = 0
                ∧ t.conditions.getLsbD 8 = true))))

/-- Transitions and freezes at an output frame end, in any order of its blocks. A running transition advances one frame, or ends at its
duration (R78), whether its output keeps its banks or swaps in a record that still holds what the transition belongs to, its to-content or
its list (R81). A swap to another content, or without the window, ends it, and a start that a list asks of a window just bound is declined
(R79, R82). A FROZEN or ARMED record is kept while the new record shows the source of its store, and otherwise released, with its pin
(R95). An armed freeze is taken when the newly selected slot carries its tag: on that slot, or joining the pin that stands on the store,
armed-shared if that is on another slot; otherwise it waits (R84, R92). Where several windows armed for one tag on one store are taken
together, each is FROZEN so, the later ones joining the pin just made, and the slot's pin count rises by their number. That a transition
marked as advanced is not advanced again is the model's (log 5). -/
def Obligations.FrameEndTakesTransitionsAndFreezes : Prop :=
  ∀ (order : List FrameEndPart) (s : State), s.rgu.scan = .running → (∀ i, StoreLegal (s.store i)) → ∃ t : State,
    exec (.outputFrameEnd order) s = .next t ∧ ∀ (o : Fin 4) (w : Fin 8),
      (s.freeze o w = .none → FrameEndMark.transition o w ∉ s.early → NoStart s o w →
        ((s.output o).armed = false → s.transition o w = .idle → t.transition o w = .idle)
        ∧ ∀ x, s.transition o w = .running x → ((s.output o).armed = false ∨ Holds s o w (Transition.owner x)) →
            t.transition o w = advanced x)
      ∧ (s.freeze o w = .none → FrameEndMark.transition o w ∈ s.early → NoStart s o w → (s.output o).armed = false →
          t.transition o w = s.transition o w)
      ∧ ((s.output o).armed = true → Lacks (s.output o).pending w → t.transition o w = .idle ∧ t.freeze o w = .none)
      ∧ ((s.output o).armed = true → pendingContent s o w ≠ activeContent s o w →
          (∀ x, s.transition o w = .running x → activeContent s o w = some (Transition.owner x)) → t.transition o w = .idle)
      ∧ (∀ i, storeNamed (s.freeze o w) = some i → (s.output o).armed = true →
          (∀ src, (s.store i).binding = some src → pendingContent s o w ≠ some (.source src)) →
          t.freeze o w = .none
          ∧ ∀ k shared, s.freeze o w = .frozen i k shared →
            (∀ o' w', (o', w') ≠ (o, w) → storeNamed (s.freeze o' w') ≠ some i) →
            ((t.store i).slot k).pins = ((s.store i).slot k).pins - 1)
      ∧ (∀ i k shared src, s.freeze o w = .frozen i k shared → (s.store i).binding = some src → Holds s o w (.source src) →
          t.freeze o w = .frozen i k shared
          ∧ (s.transition o w = .idle → t.transition o w = .idle)
          ∧ ((∀ o' w', (o', w') ≠ (o, w) → storeNamed (s.freeze o' w') ≠ some i) →
            ((t.store i).slot k).pins = ((s.store i).slot k).pins))
      ∧ ∀ tag i src, s.freeze o w = .armed tag i → (s.store i).binding = some src → Holds s o w (.source src) →
          ((∀ k f, NewestComplete (s.store i) k → ((s.store i).slot k).frame = some f → f.tag ≠ tag) →
            t.freeze o w = .armed tag i)
          ∧ ∀ k f, NewestComplete (s.store i) k → ((s.store i).slot k).frame = some f → f.tag = tag →
            (Unpinned (s.store i) → (∀ o' w', storeNamed (s.freeze o' w') = some i → (s.freeze o' w').isFrozen = false) →
              t.freeze o w = .frozen i k false ∧ ((t.store i).slot k).pins = takenAt s i src tag ∧ t.transition o w = .idle)
            ∧ ∀ j, 0 < ((s.store i).slot j).pins → (∀ l, 0 < ((s.store i).slot l).pins → l = j) →
              (∀ o' w', storeNamed (s.freeze o' w') = some i → (s.freeze o' w').isFrozen = true → KeepsFreeze s o' w' src) →
              t.freeze o w = .frozen i j (decide (j ≠ k))
                ∧ ((t.store i).slot j).pins = ((s.store i).slot j).pins + takenAt s i src tag ∧ t.transition o w = .idle

/-- An output frame start, after an output frame end or at the end of the power-on fill, fixes the c and the L of the frame from the raster
in force, T and the correction, c raised where the leading blanking would be below 1024 ticks; tick 0 follows, and every output has a plan
(R24, R114, R115, R117, R123). That the floor is applied here, to a correction that the output frame end has left without it, is the
model's reading of R123 (log 18). -/
def Obligations.FrameStartFixesTheFrame : Prop :=
  ∀ (s : State) (c : Int) (L : Nat), RasterLegal s.rgu.raster →
    c = (if 1024 ≤ ((s.rgu.raster.totalHeight : Int) - s.rgu.raster.activeHeight) * s.rgu.raster.totalWidth + s.rgu.trim + s.rgu.nextCorr
      then s.rgu.nextCorr
      else 1024 - ((s.rgu.raster.totalHeight : Int) - s.rgu.raster.activeHeight) * s.rgu.raster.totalWidth - s.rgu.trim) →
    (L : Int) = s.rgu.raster.totalWidth * s.rgu.raster.totalHeight + s.rgu.trim + c →
    ∃ t : State,
      t = { s with rgu := { s.rgu with scan := .running, tick := 0, corr := c, length := L }, plans := t.plans }
      ∧ (∀ o, (tget t.plans o).isSome = true)
      ∧ (s.rgu.scan = .between → exec .outputFrameStart s = .next t)
      ∧ (s.rgu.scan = .fill → exec .powerOnFillEnd s = .next t)

/-- The plans latched at an output frame start, after an output frame end or at the end of the power-on fill: a DARK output's has no
entries, a SHOWING output's one for each active record in order, with the record's fields, its fallback or the background, and the drawing
its freeze, transition and content resolve to (R24, R26, R27 to R32). -/
def Obligations.FrameStartLatchesThePlans : Prop :=
  ∀ s : State, ∃ t : State,
    (s.rgu.scan = .between → exec .outputFrameStart s = .next t) ∧ (s.rgu.scan = .fill → exec .powerOnFillEnd s = .next t)
    ∧ ∀ o : Fin 4, ∃ p,
    tget t.plans o = some p
      ∧ (p.mode = (s.output o).mode ∧ p.activeWidth = s.rgu.raster.activeWidth ∧ p.activeHeight = s.rgu.raster.activeHeight
        ∧ p.background = s.rgu.raster.background)
      ∧ ((s.output o).mode = .dark → p.entries = [])
      ∧ ((s.output o).mode = .showing → p.entries.length = (s.output o).active.length
        ∧ ∀ (n : Nat) (r : WindowRecord) (e : PlanEntry), (s.output o).active[n]? = some r → p.entries[n]? = some e →
          e.number = r.number ∧ e.x0 = r.x0 ∧ e.y0 = r.y0 ∧ e.width = r.width ∧ e.height = r.height ∧ e.crop = r.crop
          ∧ e.opacity = r.opacity
          ∧ (r.border = none → e.borderWidth = 0)
          ∧ (∀ b, r.border = some b → e.borderWidth = b.width ∧ e.borderColour = some b.colour)
          ∧ (r.fallback = none → e.fallback = s.rgu.raster.background) ∧ (∀ c, r.fallback = some c → e.fallback = c)
          ∧ DrawnAs s o r e.fallback e.drawing)

/-- The pixels an output sends. Outside the plan's active area there is none; with no plan or a DARK one it is black; the background where
no entry covers; and each covering entry, from the bottom, is blended over what lies below it with its opacity, the rounded weighted mean,
component by component (R26, R27, R34, R42). An entry's window value is its border colour outside its inner rectangle; inside it, the value
of its side, or the mix of its two sides by the factor of its style (R33, R35, R38 to R41). A side is its colour, the sample of its
effective crop that lies nearest, inside that crop, or the fallback colour when the crop is empty (R36, R37). Active pixel (x, y) is sent at
tick B + y × total width + x and at no other, with the samples its fetch got; every other tick is blanking, as is the time between frames
(R114). Sampling at the pixel's own tick is the model's choice (log 28). -/
def Obligations.PixelsAreComposed : Prop :=
  (∀ (s : State) (o : Fin 4) (x y : Nat),
      (tget s.plans o = none → s.activePixel o x y = some ⟨64#10, 512#10, 512#10⟩)
      ∧ ∀ p, tget s.plans o = some p →
        ((p.activeWidth ≤ x ∨ p.activeHeight ≤ y) → s.activePixel o x y = none)
        ∧ (x < p.activeWidth → y < p.activeHeight → s.activePixel o x y = some (planPixel s.memory p x y)))
    ∧ (∀ (m : List (Nat × Colour)) (p : FramePlan) (x y : Nat),
      (p.mode = .dark → planPixel m p x y = ⟨64#10, 512#10, 512#10⟩)
      ∧ (p.mode = .showing →
        ((∀ e ∈ p.entries, ¬ Covers p e x y) → planPixel m p x y = p.background)
        ∧ (∀ below e above, p.entries = below ++ e :: above → (∀ a ∈ above, ¬ Covers p a x y) →
          (Covers p e x y → planPixel m p x y = mix e.opacity (windowValue m e x y) (planPixel m { p with entries := below } x y))
          ∧ (Covers p e x y → e.opacity = 256 → planPixel m p x y = windowValue m e x y))))
    ∧ (∀ (k : Nat) (a b : Colour), k ≤ 256 →
      (mix k b a).y.toNat = (k * b.y.toNat + (256 - k) * a.y.toNat + 128) / 256
      ∧ (mix k b a).cb.toNat = (k * b.cb.toNat + (256 - k) * a.cb.toNat + 128) / 256
      ∧ (mix k b a).cr.toNat = (k * b.cr.toNat + (256 - k) * a.cr.toNat + 128) / 256)
    ∧ (∀ (m : List (Nat × Colour)) (e : PlanEntry) (x y : Nat),
      ((∀ i j w h, ¬ InnerAt e x y i j w h) → ∀ c, e.borderColour = some c → windowValue m e x y = c)
      ∧ ∀ i j w h, InnerAt e x y i j w h →
        (∀ side, e.drawing = .single side → windowValue m e x y = sideValue m e x y side)
        ∧ (∀ a b style d f vA vB, e.drawing = .mixed a b style d f → vA = sideValue m e x y a → vB = sideValue m e x y b →
          (style = .dissolve → windowValue m e x y = mix (256 * f / d) vB vA)
          ∧ (style = .fade → 2 * f ≤ d → windowValue m e x y = mix (512 * f / d) e.fallback vA)
          ∧ (style = .fade → d < 2 * f → windowValue m e x y = mix (512 * f / d - 256) vB e.fallback)
          ∧ (style = .cut → d = 1 → f = 0 → windowValue m e x y = vA))
        ∧ (∀ c, sideValue m e x y (.colour c) = c)
        ∧ ∀ st k wf hf,
          (∀ c, e.crop = some c → (wf ≤ c.cx0 ∨ hf ≤ c.cy0) → sideValue m e x y (.slot st k wf hf) = e.fallback)
          ∧ ∀ cx cy cw ch, CropsTo e.crop wf hf cx cy cw ch →
            sideValue m e x y (.slot st k wf hf) =
              memRead m (position st k (cy + (2 * j + 1) * ch / (2 * h)) (cx + (2 * i + 1) * cw / (2 * w))))
    ∧ (∀ (c : Crop) (wf hf i size : Nat) (e : Crop), 0 < wf → 0 < hf → 0 < c.cw → 0 < c.ch → i < size →
      effectiveCrop (some c) wf hf = some e →
      c.cx0 ≤ samplePosition e.cx0 e.cw i size ∧ samplePosition e.cx0 e.cw i size < wf
        ∧ samplePosition e.cx0 e.cw i size < c.cx0 + c.cw
        ∧ c.cy0 ≤ samplePosition e.cy0 e.ch i size ∧ samplePosition e.cy0 e.ch i size < hf
        ∧ samplePosition e.cy0 e.ch i size < c.cy0 + c.ch)
    ∧ (∀ (r : Raster) (L : Nat), RasterLegal r → r.activeHeight * r.totalWidth ≤ L →
      ∀ x y tick, x < r.activeWidth → y < r.activeHeight → (r.pixelAt L tick = some (x, y) ↔ tick = sentAt r L x y))
    ∧ ∀ (s : State) (o : Fin 4),
      (∀ c, tget s.samples o = some c → s.outputPixel o = some c)
      ∧ (tget s.samples o = none →
        (s.rgu.scan = .between → s.outputPixel o = none)
        ∧ (s.rgu.scan ≠ .between → RasterLegal s.rgu.raster → s.rgu.raster.activeHeight * s.rgu.raster.totalWidth ≤ s.rgu.length →
          (∀ x y, x < s.rgu.raster.activeWidth → y < s.rgu.raster.activeHeight →
            s.rgu.tick = sentAt s.rgu.raster s.rgu.length x y → s.outputPixel o = s.activePixel o x y)
          ∧ ((∀ x y, x < s.rgu.raster.activeWidth → y < s.rgu.raster.activeHeight →
            s.rgu.tick ≠ sentAt s.rgu.raster s.rgu.length x y) → s.outputPixel o = none)))

/-! ### Resets -/

/-- RESTART: the reply is formed first, with the conditions and the last reset cause as they stood; then every block takes its RESTART
values, the address, the link, frame memory and the presets are kept, and a frame that runs is cut short (R165, R173, R174, R117). What
the cut frame's length and tick read as is the model's choice (log 16, 19). -/
def Obligations.RestartResetsThePart : Prop :=
  ∀ (q : ReqHead) (s : State),
    (Broadcast q s → exec (.restart q) s = .next (passedOn (afterRestart s)))
    ∧ (Hears q s → exec (.restart q) s = .next { passedOn (afterRestart s) with
        fwd := ⟨.reply ⟨q.target, q.tag, 26, .done, decide (s.conditions ≠ 0#12),
          halfBytes (s.conditions.setWidth 16) ++ resetNumber s.lastReset :: List.replicate 37 0#8⟩, false⟩ })

/-- POWER_ON: every field takes its power-on value (R175). That it keeps the queue of commands and the count of free values, and the values
the spec gives none for, are the model's (log 17, 20), as is that frame memory reads black in that very step, before the fill of R43 has
reached it, and its form (log 10). The state the machine is reset to is that state with an empty queue, and every legality of Safety holds
of it. -/
def Obligations.PowerOnIsTheReset : Prop :=
  (∀ s : State, exec .powerOn s = .next (afterPowerOn s))
    ∧ (∀ s : State, s.pending = [] → s.freeCount = 0 → State.reset = afterPowerOn s)
    ∧ Legal State.reset

/-! ### The part as a whole -/

/-- What only some commands change: conditions are cleared only by CLEAR and the resets (R166), presets are written only by PRESAVE
(R16), the address only by ENUM and a chain break (R139), frame memory only by PIC_WRITE (R43), the plans only at an output frame start
(R24, R26), the clock only by TIMEBASE (R149), and the limits only by SILENCE (R48, R69), the resets apart. -/
def Obligations.StateHasItsWriters : Prop :=
  ∀ (c : Instr) (s t : State), exec c s = .next t → c ≠ .powerOn →
    (isRestart c = false → isClear c = false → ∀ n, s.conditions.getLsbD n = true → t.conditions.getLsbD n = true)
    ∧ (isPresave c = false → ∀ o n, (t.output o).preset n = (s.output o).preset n)
    ∧ (isEnum c = false → c ≠ .chainBreak → t.address = s.address)
    ∧ (c ≠ .picWrite → t.memory = s.memory)
    ∧ (isRestart c = false → c ≠ .outputFrameStart → c ≠ .powerOnFillEnd → t.plans = s.plans)
    ∧ (isRestart c = false → isTimebase c = false → t.clock = s.clock)
    ∧ (isRestart c = false → isSilence c = false → t.limits = s.limits)

/-- Every step keeps the ranges of the receiver, the address, the counters, the clock and the cues (R129, R139, R48, R116, R144, R149,
R151). -/
def Obligations.StepsKeepTheRanges : Prop :=
  ∀ s t : State, (TrunkLegal s ∧ CountersLegal s ∧ CuesLegal s) → step s = .next t →
    TrunkLegal t ∧ CountersLegal t ∧ CuesLegal t

/-- Every step keeps the window lists and the rotation lists in their forms (R1, R2, R102), and frame memory in the canonical form that
is the model's (log 10). -/
def Obligations.StepsKeepTheTables : Prop :=
  ∀ s t : State, (LayoutLegal s ∧ ListsLegal s ∧ MemoryLegal s) → step s = .next t → LayoutLegal t ∧ ListsLegal t ∧ MemoryLegal t

/-- Every step keeps the stores and the write queue legal: one store for a source, at most one FILLING and one selected slot, selected
slots COMPLETE, distinct completion numbers, at most 48 entries, and a close marker exactly for each CLOSING slot (R49, R52, R53, R54,
R59, R62). -/
def Obligations.StepsKeepTheStores : Prop := ∀ s t : State, StoresLegal s → step s = .next t → StoresLegal t

/-- Every step keeps transitions and freezes legal: a running transition belongs to what its window holds, a frozen window shows the
source of its store and runs none, a slot's pins are the windows frozen on it, and a store has one pinned slot at most, which is
COMPLETE (R73, R84, R88, R64, R95). -/
def Obligations.StepsKeepTransitionsAndFreezes : Prop :=
  ∀ s t : State, (StoresLegal s ∧ ListsLegal s ∧ TransitionsLegal s ∧ FreezesLegal s) → step s = .next t →
    TransitionsLegal t ∧ FreezesLegal t

/-- Every step keeps the raster and genlock legal: T and c within 2200 ticks, every frame within 4400 ticks of its nominal length with
at least 1024 ticks of leading blanking, and a reference exactly while genlock is not FREE, its store LIVE (R113, R114, R123, R125). Scan-out
fetches wait, and pixels stand fetched, only while a frame runs, the fetches raised at its present tick (R45; the model's choice, log 28). -/
def Obligations.StepsKeepRasterAndGenlock : Prop :=
  ∀ s t : State, (StoresLegal s ∧ RasterStateLegal s ∧ GenlockLegal s ∧ FetchesLegal s) → step s = .next t →
    RasterStateLegal t ∧ GenlockLegal t ∧ FetchesLegal t
end

