-- ==== Sys2Proof/Laws/Table.lean ====
section
/-! SUPPORT. Tables: what reading gives after writing and mapping, and equality entry by entry. -/

namespace Sys2Proof.Machine

variable {α β : Type} {n m : Nat}

@[simp] theorem tget_tset (v : Vector α n) (i j : Fin n) (x : α) :
    tget (tset v i x) j = if i = j then x else tget v j := by
  simp [tget, tset, Vector.getElem_set, Fin.ext_iff]

@[simp] theorem tget_tmap (f : Fin n → α → β) (v : Vector α n) (i : Fin n) : tget (tmap f v) i = f i (tget v i) := by
  simp [tget, tmap]

@[simp] theorem tget_replicate (x : α) (i : Fin n) : tget (Vector.replicate n x) i = x := by simp [tget]

@[simp] theorem tget_ofFn (f : Fin n → α) (i : Fin n) : tget (Vector.ofFn f) i = f i := by simp [tget]

/-- Two tables with the same entries are equal. -/
theorem table_ext {v w : Vector α n} (h : ∀ i, tget v i = tget w i) : v = w := by
  apply Vector.ext
  intro i hi
  exact h ⟨i, hi⟩

@[simp] theorem gget_gset (v : Vector (Vector α m) n) (i i' : Fin n) (j j' : Fin m) (x : α) :
    gget (gset v i j x) i' j' = if i = i' ∧ j = j' then x else gget v i' j' := by
  unfold gget gset
  by_cases h : i = i'
  · subst h; simp
  · simp [h]

@[simp] theorem gget_gmap (f : Fin n → Fin m → α → β) (v : Vector (Vector α m) n) (i : Fin n) (j : Fin m) :
    gget (gmap f v) i j = f i j (gget v i j) := by simp [gget, gmap]

@[simp] theorem gget_replicate (x : α) (i : Fin n) (j : Fin m) :
    gget (Vector.replicate n (Vector.replicate m x)) i j = x := by simp [gget]

/-- Two tables of tables with the same entries are equal. -/
theorem grid_ext {v w : Vector (Vector α m) n} (h : ∀ i j, gget v i j = gget w i j) : v = w :=
  table_ext fun i => table_ext fun j => h i j

/-- Writing an entry with what it holds changes nothing. -/
@[simp] theorem tset_tget (v : Vector α n) (i : Fin n) : tset v i (tget v i) = v := by
  apply table_ext
  intro j
  simp only [tget_tset]
  split
  · subst_vars; rfl
  · rfl

/-- A later write of the same entry wins. -/
@[simp] theorem tset_tset (v : Vector α n) (i : Fin n) (x y : α) : tset (tset v i x) i y = tset v i y := by
  apply table_ext
  intro j
  simp only [tget_tset]
  split <;> rfl

end Sys2Proof.Machine
end

