-- ==== Sys2Proof/Laws/State.lean ====
section
/-! SUPPORT. What each update of `State` leaves and changes: one lemma per field and per indexed reading, all simp lemmas, so that
no proof unfolds a record update. -/

namespace Sys2Proof.Machine

variable (s : State)

/-! ### setStore -/

@[simp] theorem State.setStore_trx (i : Fin 8) (x : Store) : (s.setStore i x).trx = s.trx := rfl
@[simp] theorem State.setStore_fwd (i : Fin 8) (x : Store) : (s.setStore i x).fwd = s.fwd := rfl
@[simp] theorem State.setStore_address (i : Fin 8) (x : Store) : (s.setStore i x).address = s.address := rfl
@[simp] theorem State.setStore_stores (i : Fin 8) (x : Store) : (s.setStore i x).stores = tset s.stores i x := rfl
@[simp] theorem State.setStore_limits (i : Fin 8) (x : Store) : (s.setStore i x).limits = s.limits := rfl
@[simp] theorem State.setStore_queue (i : Fin 8) (x : Store) : (s.setStore i x).queue = s.queue := rfl
@[simp] theorem State.setStore_memory (i : Fin 8) (x : Store) : (s.setStore i x).memory = s.memory := rfl
@[simp] theorem State.setStore_fmc (i : Fin 8) (x : Store) : (s.setStore i x).fmc = s.fmc := rfl
@[simp] theorem State.setStore_rgu (i : Fin 8) (x : Store) : (s.setStore i x).rgu = s.rgu := rfl
@[simp] theorem State.setStore_outputs (i : Fin 8) (x : Store) : (s.setStore i x).outputs = s.outputs := rfl
@[simp] theorem State.setStore_transitions (i : Fin 8) (x : Store) : (s.setStore i x).transitions = s.transitions := rfl
@[simp] theorem State.setStore_former (i : Fin 8) (x : Store) : (s.setStore i x).former = s.former := rfl
@[simp] theorem State.setStore_freezes (i : Fin 8) (x : Store) : (s.setStore i x).freezes = s.freezes := rfl
@[simp] theorem State.setStore_lists (i : Fin 8) (x : Store) : (s.setStore i x).lists = s.lists := rfl
@[simp] theorem State.setStore_clock (i : Fin 8) (x : Store) : (s.setStore i x).clock = s.clock := rfl
@[simp] theorem State.setStore_cues (i : Fin 8) (x : Store) : (s.setStore i x).cues = s.cues := rfl
@[simp] theorem State.setStore_plans (i : Fin 8) (x : Store) : (s.setStore i x).plans = s.plans := rfl
@[simp] theorem State.setStore_samples (i : Fin 8) (x : Store) : (s.setStore i x).samples = s.samples := rfl
@[simp] theorem State.setStore_survey (i : Fin 8) (x : Store) : (s.setStore i x).survey = s.survey := rfl
@[simp] theorem State.setStore_conditions (i : Fin 8) (x : Store) : (s.setStore i x).conditions = s.conditions := rfl
@[simp] theorem State.setStore_lastReset (i : Fin 8) (x : Store) : (s.setStore i x).lastReset = s.lastReset := rfl
@[simp] theorem State.setStore_early (i : Fin 8) (x : Store) : (s.setStore i x).early = s.early := rfl
@[simp] theorem State.setStore_freeCount (i : Fin 8) (x : Store) : (s.setStore i x).freeCount = s.freeCount := rfl
@[simp] theorem State.setStore_pending (i : Fin 8) (x : Store) : (s.setStore i x).pending = s.pending := rfl
@[simp] theorem State.setStore_output (i : Fin 8) (x : Store) (o' : Fin 4) : (s.setStore i x).output o' = s.output o' := rfl
@[simp] theorem State.setStore_transition (i : Fin 8) (x : Store) (o' : Fin 4) (w' : Fin 8) : (s.setStore i x).transition o' w' = s.transition o' w' := rfl
@[simp] theorem State.setStore_formerOf (i : Fin 8) (x : Store) (o' : Fin 4) (w' : Fin 8) : (s.setStore i x).formerOf o' w' = s.formerOf o' w' := rfl
@[simp] theorem State.setStore_freeze (i : Fin 8) (x : Store) (o' : Fin 4) (w' : Fin 8) : (s.setStore i x).freeze o' w' = s.freeze o' w' := rfl
@[simp] theorem State.setStore_list (i : Fin 8) (x : Store) (r' : Fin 4) : (s.setStore i x).list r' = s.list r' := rfl
@[simp] theorem State.setStore_cue (i : Fin 8) (x : Store) (c' : Fin 16) : (s.setStore i x).cue c' = s.cue c' := rfl

/-! ### setOutput -/

@[simp] theorem State.setOutput_trx (o : Fin 4) (x : Output) : (s.setOutput o x).trx = s.trx := rfl
@[simp] theorem State.setOutput_fwd (o : Fin 4) (x : Output) : (s.setOutput o x).fwd = s.fwd := rfl
@[simp] theorem State.setOutput_address (o : Fin 4) (x : Output) : (s.setOutput o x).address = s.address := rfl
@[simp] theorem State.setOutput_stores (o : Fin 4) (x : Output) : (s.setOutput o x).stores = s.stores := rfl
@[simp] theorem State.setOutput_limits (o : Fin 4) (x : Output) : (s.setOutput o x).limits = s.limits := rfl
@[simp] theorem State.setOutput_queue (o : Fin 4) (x : Output) : (s.setOutput o x).queue = s.queue := rfl
@[simp] theorem State.setOutput_memory (o : Fin 4) (x : Output) : (s.setOutput o x).memory = s.memory := rfl
@[simp] theorem State.setOutput_fmc (o : Fin 4) (x : Output) : (s.setOutput o x).fmc = s.fmc := rfl
@[simp] theorem State.setOutput_rgu (o : Fin 4) (x : Output) : (s.setOutput o x).rgu = s.rgu := rfl
@[simp] theorem State.setOutput_outputs (o : Fin 4) (x : Output) : (s.setOutput o x).outputs = tset s.outputs o x := rfl
@[simp] theorem State.setOutput_transitions (o : Fin 4) (x : Output) : (s.setOutput o x).transitions = s.transitions := rfl
@[simp] theorem State.setOutput_former (o : Fin 4) (x : Output) : (s.setOutput o x).former = s.former := rfl
@[simp] theorem State.setOutput_freezes (o : Fin 4) (x : Output) : (s.setOutput o x).freezes = s.freezes := rfl
@[simp] theorem State.setOutput_lists (o : Fin 4) (x : Output) : (s.setOutput o x).lists = s.lists := rfl
@[simp] theorem State.setOutput_clock (o : Fin 4) (x : Output) : (s.setOutput o x).clock = s.clock := rfl
@[simp] theorem State.setOutput_cues (o : Fin 4) (x : Output) : (s.setOutput o x).cues = s.cues := rfl
@[simp] theorem State.setOutput_plans (o : Fin 4) (x : Output) : (s.setOutput o x).plans = s.plans := rfl
@[simp] theorem State.setOutput_samples (o : Fin 4) (x : Output) : (s.setOutput o x).samples = s.samples := rfl
@[simp] theorem State.setOutput_survey (o : Fin 4) (x : Output) : (s.setOutput o x).survey = s.survey := rfl
@[simp] theorem State.setOutput_conditions (o : Fin 4) (x : Output) : (s.setOutput o x).conditions = s.conditions := rfl
@[simp] theorem State.setOutput_lastReset (o : Fin 4) (x : Output) : (s.setOutput o x).lastReset = s.lastReset := rfl
@[simp] theorem State.setOutput_early (o : Fin 4) (x : Output) : (s.setOutput o x).early = s.early := rfl
@[simp] theorem State.setOutput_freeCount (o : Fin 4) (x : Output) : (s.setOutput o x).freeCount = s.freeCount := rfl
@[simp] theorem State.setOutput_pending (o : Fin 4) (x : Output) : (s.setOutput o x).pending = s.pending := rfl
@[simp] theorem State.setOutput_store (o : Fin 4) (x : Output) (j : Fin 8) : (s.setOutput o x).store j = s.store j := rfl
@[simp] theorem State.setOutput_transition (o : Fin 4) (x : Output) (o' : Fin 4) (w' : Fin 8) : (s.setOutput o x).transition o' w' = s.transition o' w' := rfl
@[simp] theorem State.setOutput_formerOf (o : Fin 4) (x : Output) (o' : Fin 4) (w' : Fin 8) : (s.setOutput o x).formerOf o' w' = s.formerOf o' w' := rfl
@[simp] theorem State.setOutput_freeze (o : Fin 4) (x : Output) (o' : Fin 4) (w' : Fin 8) : (s.setOutput o x).freeze o' w' = s.freeze o' w' := rfl
@[simp] theorem State.setOutput_list (o : Fin 4) (x : Output) (r' : Fin 4) : (s.setOutput o x).list r' = s.list r' := rfl
@[simp] theorem State.setOutput_cue (o : Fin 4) (x : Output) (c' : Fin 16) : (s.setOutput o x).cue c' = s.cue c' := rfl

/-! ### setTransition -/

@[simp] theorem State.setTransition_trx (o : Fin 4) (w : Fin 8) (x : TransitionRecord) : (s.setTransition o w x).trx = s.trx := rfl
@[simp] theorem State.setTransition_fwd (o : Fin 4) (w : Fin 8) (x : TransitionRecord) : (s.setTransition o w x).fwd = s.fwd := rfl
@[simp] theorem State.setTransition_address (o : Fin 4) (w : Fin 8) (x : TransitionRecord) : (s.setTransition o w x).address = s.address := rfl
@[simp] theorem State.setTransition_stores (o : Fin 4) (w : Fin 8) (x : TransitionRecord) : (s.setTransition o w x).stores = s.stores := rfl
@[simp] theorem State.setTransition_limits (o : Fin 4) (w : Fin 8) (x : TransitionRecord) : (s.setTransition o w x).limits = s.limits := rfl
@[simp] theorem State.setTransition_queue (o : Fin 4) (w : Fin 8) (x : TransitionRecord) : (s.setTransition o w x).queue = s.queue := rfl
@[simp] theorem State.setTransition_memory (o : Fin 4) (w : Fin 8) (x : TransitionRecord) : (s.setTransition o w x).memory = s.memory := rfl
@[simp] theorem State.setTransition_fmc (o : Fin 4) (w : Fin 8) (x : TransitionRecord) : (s.setTransition o w x).fmc = s.fmc := rfl
@[simp] theorem State.setTransition_rgu (o : Fin 4) (w : Fin 8) (x : TransitionRecord) : (s.setTransition o w x).rgu = s.rgu := rfl
@[simp] theorem State.setTransition_outputs (o : Fin 4) (w : Fin 8) (x : TransitionRecord) : (s.setTransition o w x).outputs = s.outputs := rfl
@[simp] theorem State.setTransition_transitions (o : Fin 4) (w : Fin 8) (x : TransitionRecord) : (s.setTransition o w x).transitions = gset s.transitions o w x := rfl
@[simp] theorem State.setTransition_former (o : Fin 4) (w : Fin 8) (x : TransitionRecord) : (s.setTransition o w x).former = s.former := rfl
@[simp] theorem State.setTransition_freezes (o : Fin 4) (w : Fin 8) (x : TransitionRecord) : (s.setTransition o w x).freezes = s.freezes := rfl
@[simp] theorem State.setTransition_lists (o : Fin 4) (w : Fin 8) (x : TransitionRecord) : (s.setTransition o w x).lists = s.lists := rfl
@[simp] theorem State.setTransition_clock (o : Fin 4) (w : Fin 8) (x : TransitionRecord) : (s.setTransition o w x).clock = s.clock := rfl
@[simp] theorem State.setTransition_cues (o : Fin 4) (w : Fin 8) (x : TransitionRecord) : (s.setTransition o w x).cues = s.cues := rfl
@[simp] theorem State.setTransition_plans (o : Fin 4) (w : Fin 8) (x : TransitionRecord) : (s.setTransition o w x).plans = s.plans := rfl
@[simp] theorem State.setTransition_samples (o : Fin 4) (w : Fin 8) (x : TransitionRecord) : (s.setTransition o w x).samples = s.samples := rfl
@[simp] theorem State.setTransition_survey (o : Fin 4) (w : Fin 8) (x : TransitionRecord) : (s.setTransition o w x).survey = s.survey := rfl
@[simp] theorem State.setTransition_conditions (o : Fin 4) (w : Fin 8) (x : TransitionRecord) : (s.setTransition o w x).conditions = s.conditions := rfl
@[simp] theorem State.setTransition_lastReset (o : Fin 4) (w : Fin 8) (x : TransitionRecord) : (s.setTransition o w x).lastReset = s.lastReset := rfl
@[simp] theorem State.setTransition_early (o : Fin 4) (w : Fin 8) (x : TransitionRecord) : (s.setTransition o w x).early = s.early := rfl
@[simp] theorem State.setTransition_freeCount (o : Fin 4) (w : Fin 8) (x : TransitionRecord) : (s.setTransition o w x).freeCount = s.freeCount := rfl
@[simp] theorem State.setTransition_pending (o : Fin 4) (w : Fin 8) (x : TransitionRecord) : (s.setTransition o w x).pending = s.pending := rfl
@[simp] theorem State.setTransition_store (o : Fin 4) (w : Fin 8) (x : TransitionRecord) (j : Fin 8) : (s.setTransition o w x).store j = s.store j := rfl
@[simp] theorem State.setTransition_output (o : Fin 4) (w : Fin 8) (x : TransitionRecord) (o' : Fin 4) : (s.setTransition o w x).output o' = s.output o' := rfl
@[simp] theorem State.setTransition_formerOf (o : Fin 4) (w : Fin 8) (x : TransitionRecord) (o' : Fin 4) (w' : Fin 8) : (s.setTransition o w x).formerOf o' w' = s.formerOf o' w' := rfl
@[simp] theorem State.setTransition_freeze (o : Fin 4) (w : Fin 8) (x : TransitionRecord) (o' : Fin 4) (w' : Fin 8) : (s.setTransition o w x).freeze o' w' = s.freeze o' w' := rfl
@[simp] theorem State.setTransition_list (o : Fin 4) (w : Fin 8) (x : TransitionRecord) (r' : Fin 4) : (s.setTransition o w x).list r' = s.list r' := rfl
@[simp] theorem State.setTransition_cue (o : Fin 4) (w : Fin 8) (x : TransitionRecord) (c' : Fin 16) : (s.setTransition o w x).cue c' = s.cue c' := rfl

/-! ### setFormer -/

@[simp] theorem State.setFormer_trx (o : Fin 4) (w : Fin 8) (x : Option (Option Content)) : (s.setFormer o w x).trx = s.trx := rfl
@[simp] theorem State.setFormer_fwd (o : Fin 4) (w : Fin 8) (x : Option (Option Content)) : (s.setFormer o w x).fwd = s.fwd := rfl
@[simp] theorem State.setFormer_address (o : Fin 4) (w : Fin 8) (x : Option (Option Content)) : (s.setFormer o w x).address = s.address := rfl
@[simp] theorem State.setFormer_stores (o : Fin 4) (w : Fin 8) (x : Option (Option Content)) : (s.setFormer o w x).stores = s.stores := rfl
@[simp] theorem State.setFormer_limits (o : Fin 4) (w : Fin 8) (x : Option (Option Content)) : (s.setFormer o w x).limits = s.limits := rfl
@[simp] theorem State.setFormer_queue (o : Fin 4) (w : Fin 8) (x : Option (Option Content)) : (s.setFormer o w x).queue = s.queue := rfl
@[simp] theorem State.setFormer_memory (o : Fin 4) (w : Fin 8) (x : Option (Option Content)) : (s.setFormer o w x).memory = s.memory := rfl
@[simp] theorem State.setFormer_fmc (o : Fin 4) (w : Fin 8) (x : Option (Option Content)) : (s.setFormer o w x).fmc = s.fmc := rfl
@[simp] theorem State.setFormer_rgu (o : Fin 4) (w : Fin 8) (x : Option (Option Content)) : (s.setFormer o w x).rgu = s.rgu := rfl
@[simp] theorem State.setFormer_outputs (o : Fin 4) (w : Fin 8) (x : Option (Option Content)) : (s.setFormer o w x).outputs = s.outputs := rfl
@[simp] theorem State.setFormer_transitions (o : Fin 4) (w : Fin 8) (x : Option (Option Content)) : (s.setFormer o w x).transitions = s.transitions := rfl
@[simp] theorem State.setFormer_former (o : Fin 4) (w : Fin 8) (x : Option (Option Content)) : (s.setFormer o w x).former = gset s.former o w x := rfl
@[simp] theorem State.setFormer_freezes (o : Fin 4) (w : Fin 8) (x : Option (Option Content)) : (s.setFormer o w x).freezes = s.freezes := rfl
@[simp] theorem State.setFormer_lists (o : Fin 4) (w : Fin 8) (x : Option (Option Content)) : (s.setFormer o w x).lists = s.lists := rfl
@[simp] theorem State.setFormer_clock (o : Fin 4) (w : Fin 8) (x : Option (Option Content)) : (s.setFormer o w x).clock = s.clock := rfl
@[simp] theorem State.setFormer_cues (o : Fin 4) (w : Fin 8) (x : Option (Option Content)) : (s.setFormer o w x).cues = s.cues := rfl
@[simp] theorem State.setFormer_plans (o : Fin 4) (w : Fin 8) (x : Option (Option Content)) : (s.setFormer o w x).plans = s.plans := rfl
@[simp] theorem State.setFormer_samples (o : Fin 4) (w : Fin 8) (x : Option (Option Content)) : (s.setFormer o w x).samples = s.samples := rfl
@[simp] theorem State.setFormer_survey (o : Fin 4) (w : Fin 8) (x : Option (Option Content)) : (s.setFormer o w x).survey = s.survey := rfl
@[simp] theorem State.setFormer_conditions (o : Fin 4) (w : Fin 8) (x : Option (Option Content)) : (s.setFormer o w x).conditions = s.conditions := rfl
@[simp] theorem State.setFormer_lastReset (o : Fin 4) (w : Fin 8) (x : Option (Option Content)) : (s.setFormer o w x).lastReset = s.lastReset := rfl
@[simp] theorem State.setFormer_early (o : Fin 4) (w : Fin 8) (x : Option (Option Content)) : (s.setFormer o w x).early = s.early := rfl
@[simp] theorem State.setFormer_freeCount (o : Fin 4) (w : Fin 8) (x : Option (Option Content)) : (s.setFormer o w x).freeCount = s.freeCount := rfl
@[simp] theorem State.setFormer_pending (o : Fin 4) (w : Fin 8) (x : Option (Option Content)) : (s.setFormer o w x).pending = s.pending := rfl
@[simp] theorem State.setFormer_store (o : Fin 4) (w : Fin 8) (x : Option (Option Content)) (j : Fin 8) : (s.setFormer o w x).store j = s.store j := rfl
@[simp] theorem State.setFormer_output (o : Fin 4) (w : Fin 8) (x : Option (Option Content)) (o' : Fin 4) : (s.setFormer o w x).output o' = s.output o' := rfl
@[simp] theorem State.setFormer_transition (o : Fin 4) (w : Fin 8) (x : Option (Option Content)) (o' : Fin 4) (w' : Fin 8) : (s.setFormer o w x).transition o' w' = s.transition o' w' := rfl
@[simp] theorem State.setFormer_freeze (o : Fin 4) (w : Fin 8) (x : Option (Option Content)) (o' : Fin 4) (w' : Fin 8) : (s.setFormer o w x).freeze o' w' = s.freeze o' w' := rfl
@[simp] theorem State.setFormer_list (o : Fin 4) (w : Fin 8) (x : Option (Option Content)) (r' : Fin 4) : (s.setFormer o w x).list r' = s.list r' := rfl
@[simp] theorem State.setFormer_cue (o : Fin 4) (w : Fin 8) (x : Option (Option Content)) (c' : Fin 16) : (s.setFormer o w x).cue c' = s.cue c' := rfl

/-! ### setFreeze -/

@[simp] theorem State.setFreeze_trx (o : Fin 4) (w : Fin 8) (x : FreezeRecord) : (s.setFreeze o w x).trx = s.trx := rfl
@[simp] theorem State.setFreeze_fwd (o : Fin 4) (w : Fin 8) (x : FreezeRecord) : (s.setFreeze o w x).fwd = s.fwd := rfl
@[simp] theorem State.setFreeze_address (o : Fin 4) (w : Fin 8) (x : FreezeRecord) : (s.setFreeze o w x).address = s.address := rfl
@[simp] theorem State.setFreeze_stores (o : Fin 4) (w : Fin 8) (x : FreezeRecord) : (s.setFreeze o w x).stores = s.stores := rfl
@[simp] theorem State.setFreeze_limits (o : Fin 4) (w : Fin 8) (x : FreezeRecord) : (s.setFreeze o w x).limits = s.limits := rfl
@[simp] theorem State.setFreeze_queue (o : Fin 4) (w : Fin 8) (x : FreezeRecord) : (s.setFreeze o w x).queue = s.queue := rfl
@[simp] theorem State.setFreeze_memory (o : Fin 4) (w : Fin 8) (x : FreezeRecord) : (s.setFreeze o w x).memory = s.memory := rfl
@[simp] theorem State.setFreeze_fmc (o : Fin 4) (w : Fin 8) (x : FreezeRecord) : (s.setFreeze o w x).fmc = s.fmc := rfl
@[simp] theorem State.setFreeze_rgu (o : Fin 4) (w : Fin 8) (x : FreezeRecord) : (s.setFreeze o w x).rgu = s.rgu := rfl
@[simp] theorem State.setFreeze_outputs (o : Fin 4) (w : Fin 8) (x : FreezeRecord) : (s.setFreeze o w x).outputs = s.outputs := rfl
@[simp] theorem State.setFreeze_transitions (o : Fin 4) (w : Fin 8) (x : FreezeRecord) : (s.setFreeze o w x).transitions = s.transitions := rfl
@[simp] theorem State.setFreeze_former (o : Fin 4) (w : Fin 8) (x : FreezeRecord) : (s.setFreeze o w x).former = s.former := rfl
@[simp] theorem State.setFreeze_freezes (o : Fin 4) (w : Fin 8) (x : FreezeRecord) : (s.setFreeze o w x).freezes = gset s.freezes o w x := rfl
@[simp] theorem State.setFreeze_lists (o : Fin 4) (w : Fin 8) (x : FreezeRecord) : (s.setFreeze o w x).lists = s.lists := rfl
@[simp] theorem State.setFreeze_clock (o : Fin 4) (w : Fin 8) (x : FreezeRecord) : (s.setFreeze o w x).clock = s.clock := rfl
@[simp] theorem State.setFreeze_cues (o : Fin 4) (w : Fin 8) (x : FreezeRecord) : (s.setFreeze o w x).cues = s.cues := rfl
@[simp] theorem State.setFreeze_plans (o : Fin 4) (w : Fin 8) (x : FreezeRecord) : (s.setFreeze o w x).plans = s.plans := rfl
@[simp] theorem State.setFreeze_samples (o : Fin 4) (w : Fin 8) (x : FreezeRecord) : (s.setFreeze o w x).samples = s.samples := rfl
@[simp] theorem State.setFreeze_survey (o : Fin 4) (w : Fin 8) (x : FreezeRecord) : (s.setFreeze o w x).survey = s.survey := rfl
@[simp] theorem State.setFreeze_conditions (o : Fin 4) (w : Fin 8) (x : FreezeRecord) : (s.setFreeze o w x).conditions = s.conditions := rfl
@[simp] theorem State.setFreeze_lastReset (o : Fin 4) (w : Fin 8) (x : FreezeRecord) : (s.setFreeze o w x).lastReset = s.lastReset := rfl
@[simp] theorem State.setFreeze_early (o : Fin 4) (w : Fin 8) (x : FreezeRecord) : (s.setFreeze o w x).early = s.early := rfl
@[simp] theorem State.setFreeze_freeCount (o : Fin 4) (w : Fin 8) (x : FreezeRecord) : (s.setFreeze o w x).freeCount = s.freeCount := rfl
@[simp] theorem State.setFreeze_pending (o : Fin 4) (w : Fin 8) (x : FreezeRecord) : (s.setFreeze o w x).pending = s.pending := rfl
@[simp] theorem State.setFreeze_store (o : Fin 4) (w : Fin 8) (x : FreezeRecord) (j : Fin 8) : (s.setFreeze o w x).store j = s.store j := rfl
@[simp] theorem State.setFreeze_output (o : Fin 4) (w : Fin 8) (x : FreezeRecord) (o' : Fin 4) : (s.setFreeze o w x).output o' = s.output o' := rfl
@[simp] theorem State.setFreeze_transition (o : Fin 4) (w : Fin 8) (x : FreezeRecord) (o' : Fin 4) (w' : Fin 8) : (s.setFreeze o w x).transition o' w' = s.transition o' w' := rfl
@[simp] theorem State.setFreeze_formerOf (o : Fin 4) (w : Fin 8) (x : FreezeRecord) (o' : Fin 4) (w' : Fin 8) : (s.setFreeze o w x).formerOf o' w' = s.formerOf o' w' := rfl
@[simp] theorem State.setFreeze_list (o : Fin 4) (w : Fin 8) (x : FreezeRecord) (r' : Fin 4) : (s.setFreeze o w x).list r' = s.list r' := rfl
@[simp] theorem State.setFreeze_cue (o : Fin 4) (w : Fin 8) (x : FreezeRecord) (c' : Fin 16) : (s.setFreeze o w x).cue c' = s.cue c' := rfl

/-! ### setList -/

@[simp] theorem State.setList_trx (r : Fin 4) (x : RotationList) : (s.setList r x).trx = s.trx := rfl
@[simp] theorem State.setList_fwd (r : Fin 4) (x : RotationList) : (s.setList r x).fwd = s.fwd := rfl
@[simp] theorem State.setList_address (r : Fin 4) (x : RotationList) : (s.setList r x).address = s.address := rfl
@[simp] theorem State.setList_stores (r : Fin 4) (x : RotationList) : (s.setList r x).stores = s.stores := rfl
@[simp] theorem State.setList_limits (r : Fin 4) (x : RotationList) : (s.setList r x).limits = s.limits := rfl
@[simp] theorem State.setList_queue (r : Fin 4) (x : RotationList) : (s.setList r x).queue = s.queue := rfl
@[simp] theorem State.setList_memory (r : Fin 4) (x : RotationList) : (s.setList r x).memory = s.memory := rfl
@[simp] theorem State.setList_fmc (r : Fin 4) (x : RotationList) : (s.setList r x).fmc = s.fmc := rfl
@[simp] theorem State.setList_rgu (r : Fin 4) (x : RotationList) : (s.setList r x).rgu = s.rgu := rfl
@[simp] theorem State.setList_outputs (r : Fin 4) (x : RotationList) : (s.setList r x).outputs = s.outputs := rfl
@[simp] theorem State.setList_transitions (r : Fin 4) (x : RotationList) : (s.setList r x).transitions = s.transitions := rfl
@[simp] theorem State.setList_former (r : Fin 4) (x : RotationList) : (s.setList r x).former = s.former := rfl
@[simp] theorem State.setList_freezes (r : Fin 4) (x : RotationList) : (s.setList r x).freezes = s.freezes := rfl
@[simp] theorem State.setList_lists (r : Fin 4) (x : RotationList) : (s.setList r x).lists = tset s.lists r x := rfl
@[simp] theorem State.setList_clock (r : Fin 4) (x : RotationList) : (s.setList r x).clock = s.clock := rfl
@[simp] theorem State.setList_cues (r : Fin 4) (x : RotationList) : (s.setList r x).cues = s.cues := rfl
@[simp] theorem State.setList_plans (r : Fin 4) (x : RotationList) : (s.setList r x).plans = s.plans := rfl
@[simp] theorem State.setList_samples (r : Fin 4) (x : RotationList) : (s.setList r x).samples = s.samples := rfl
@[simp] theorem State.setList_survey (r : Fin 4) (x : RotationList) : (s.setList r x).survey = s.survey := rfl
@[simp] theorem State.setList_conditions (r : Fin 4) (x : RotationList) : (s.setList r x).conditions = s.conditions := rfl
@[simp] theorem State.setList_lastReset (r : Fin 4) (x : RotationList) : (s.setList r x).lastReset = s.lastReset := rfl
@[simp] theorem State.setList_early (r : Fin 4) (x : RotationList) : (s.setList r x).early = s.early := rfl
@[simp] theorem State.setList_freeCount (r : Fin 4) (x : RotationList) : (s.setList r x).freeCount = s.freeCount := rfl
@[simp] theorem State.setList_pending (r : Fin 4) (x : RotationList) : (s.setList r x).pending = s.pending := rfl
@[simp] theorem State.setList_store (r : Fin 4) (x : RotationList) (j : Fin 8) : (s.setList r x).store j = s.store j := rfl
@[simp] theorem State.setList_output (r : Fin 4) (x : RotationList) (o' : Fin 4) : (s.setList r x).output o' = s.output o' := rfl
@[simp] theorem State.setList_transition (r : Fin 4) (x : RotationList) (o' : Fin 4) (w' : Fin 8) : (s.setList r x).transition o' w' = s.transition o' w' := rfl
@[simp] theorem State.setList_formerOf (r : Fin 4) (x : RotationList) (o' : Fin 4) (w' : Fin 8) : (s.setList r x).formerOf o' w' = s.formerOf o' w' := rfl
@[simp] theorem State.setList_freeze (r : Fin 4) (x : RotationList) (o' : Fin 4) (w' : Fin 8) : (s.setList r x).freeze o' w' = s.freeze o' w' := rfl
@[simp] theorem State.setList_cue (r : Fin 4) (x : RotationList) (c' : Fin 16) : (s.setList r x).cue c' = s.cue c' := rfl

/-! ### setCue -/

@[simp] theorem State.setCue_trx (c : Fin 16) (x : Option Cue) : (s.setCue c x).trx = s.trx := rfl
@[simp] theorem State.setCue_fwd (c : Fin 16) (x : Option Cue) : (s.setCue c x).fwd = s.fwd := rfl
@[simp] theorem State.setCue_address (c : Fin 16) (x : Option Cue) : (s.setCue c x).address = s.address := rfl
@[simp] theorem State.setCue_stores (c : Fin 16) (x : Option Cue) : (s.setCue c x).stores = s.stores := rfl
@[simp] theorem State.setCue_limits (c : Fin 16) (x : Option Cue) : (s.setCue c x).limits = s.limits := rfl
@[simp] theorem State.setCue_queue (c : Fin 16) (x : Option Cue) : (s.setCue c x).queue = s.queue := rfl
@[simp] theorem State.setCue_memory (c : Fin 16) (x : Option Cue) : (s.setCue c x).memory = s.memory := rfl
@[simp] theorem State.setCue_fmc (c : Fin 16) (x : Option Cue) : (s.setCue c x).fmc = s.fmc := rfl
@[simp] theorem State.setCue_rgu (c : Fin 16) (x : Option Cue) : (s.setCue c x).rgu = s.rgu := rfl
@[simp] theorem State.setCue_outputs (c : Fin 16) (x : Option Cue) : (s.setCue c x).outputs = s.outputs := rfl
@[simp] theorem State.setCue_transitions (c : Fin 16) (x : Option Cue) : (s.setCue c x).transitions = s.transitions := rfl
@[simp] theorem State.setCue_former (c : Fin 16) (x : Option Cue) : (s.setCue c x).former = s.former := rfl
@[simp] theorem State.setCue_freezes (c : Fin 16) (x : Option Cue) : (s.setCue c x).freezes = s.freezes := rfl
@[simp] theorem State.setCue_lists (c : Fin 16) (x : Option Cue) : (s.setCue c x).lists = s.lists := rfl
@[simp] theorem State.setCue_clock (c : Fin 16) (x : Option Cue) : (s.setCue c x).clock = s.clock := rfl
@[simp] theorem State.setCue_cues (c : Fin 16) (x : Option Cue) : (s.setCue c x).cues = tset s.cues c x := rfl
@[simp] theorem State.setCue_plans (c : Fin 16) (x : Option Cue) : (s.setCue c x).plans = s.plans := rfl
@[simp] theorem State.setCue_samples (c : Fin 16) (x : Option Cue) : (s.setCue c x).samples = s.samples := rfl
@[simp] theorem State.setCue_survey (c : Fin 16) (x : Option Cue) : (s.setCue c x).survey = s.survey := rfl
@[simp] theorem State.setCue_conditions (c : Fin 16) (x : Option Cue) : (s.setCue c x).conditions = s.conditions := rfl
@[simp] theorem State.setCue_lastReset (c : Fin 16) (x : Option Cue) : (s.setCue c x).lastReset = s.lastReset := rfl
@[simp] theorem State.setCue_early (c : Fin 16) (x : Option Cue) : (s.setCue c x).early = s.early := rfl
@[simp] theorem State.setCue_freeCount (c : Fin 16) (x : Option Cue) : (s.setCue c x).freeCount = s.freeCount := rfl
@[simp] theorem State.setCue_pending (c : Fin 16) (x : Option Cue) : (s.setCue c x).pending = s.pending := rfl
@[simp] theorem State.setCue_store (c : Fin 16) (x : Option Cue) (j : Fin 8) : (s.setCue c x).store j = s.store j := rfl
@[simp] theorem State.setCue_output (c : Fin 16) (x : Option Cue) (o' : Fin 4) : (s.setCue c x).output o' = s.output o' := rfl
@[simp] theorem State.setCue_transition (c : Fin 16) (x : Option Cue) (o' : Fin 4) (w' : Fin 8) : (s.setCue c x).transition o' w' = s.transition o' w' := rfl
@[simp] theorem State.setCue_formerOf (c : Fin 16) (x : Option Cue) (o' : Fin 4) (w' : Fin 8) : (s.setCue c x).formerOf o' w' = s.formerOf o' w' := rfl
@[simp] theorem State.setCue_freeze (c : Fin 16) (x : Option Cue) (o' : Fin 4) (w' : Fin 8) : (s.setCue c x).freeze o' w' = s.freeze o' w' := rfl
@[simp] theorem State.setCue_list (c : Fin 16) (x : Option Cue) (r' : Fin 4) : (s.setCue c x).list r' = s.list r' := rfl

/-! ### setRgu -/

@[simp] theorem State.setRgu_trx (x : Rgu) : (s.setRgu x).trx = s.trx := rfl
@[simp] theorem State.setRgu_fwd (x : Rgu) : (s.setRgu x).fwd = s.fwd := rfl
@[simp] theorem State.setRgu_address (x : Rgu) : (s.setRgu x).address = s.address := rfl
@[simp] theorem State.setRgu_stores (x : Rgu) : (s.setRgu x).stores = s.stores := rfl
@[simp] theorem State.setRgu_limits (x : Rgu) : (s.setRgu x).limits = s.limits := rfl
@[simp] theorem State.setRgu_queue (x : Rgu) : (s.setRgu x).queue = s.queue := rfl
@[simp] theorem State.setRgu_memory (x : Rgu) : (s.setRgu x).memory = s.memory := rfl
@[simp] theorem State.setRgu_fmc (x : Rgu) : (s.setRgu x).fmc = s.fmc := rfl
@[simp] theorem State.setRgu_rgu (x : Rgu) : (s.setRgu x).rgu = x := rfl
@[simp] theorem State.setRgu_outputs (x : Rgu) : (s.setRgu x).outputs = s.outputs := rfl
@[simp] theorem State.setRgu_transitions (x : Rgu) : (s.setRgu x).transitions = s.transitions := rfl
@[simp] theorem State.setRgu_former (x : Rgu) : (s.setRgu x).former = s.former := rfl
@[simp] theorem State.setRgu_freezes (x : Rgu) : (s.setRgu x).freezes = s.freezes := rfl
@[simp] theorem State.setRgu_lists (x : Rgu) : (s.setRgu x).lists = s.lists := rfl
@[simp] theorem State.setRgu_clock (x : Rgu) : (s.setRgu x).clock = s.clock := rfl
@[simp] theorem State.setRgu_cues (x : Rgu) : (s.setRgu x).cues = s.cues := rfl
@[simp] theorem State.setRgu_plans (x : Rgu) : (s.setRgu x).plans = s.plans := rfl
@[simp] theorem State.setRgu_samples (x : Rgu) : (s.setRgu x).samples = s.samples := rfl
@[simp] theorem State.setRgu_survey (x : Rgu) : (s.setRgu x).survey = s.survey := rfl
@[simp] theorem State.setRgu_conditions (x : Rgu) : (s.setRgu x).conditions = s.conditions := rfl
@[simp] theorem State.setRgu_lastReset (x : Rgu) : (s.setRgu x).lastReset = s.lastReset := rfl
@[simp] theorem State.setRgu_early (x : Rgu) : (s.setRgu x).early = s.early := rfl
@[simp] theorem State.setRgu_freeCount (x : Rgu) : (s.setRgu x).freeCount = s.freeCount := rfl
@[simp] theorem State.setRgu_pending (x : Rgu) : (s.setRgu x).pending = s.pending := rfl
@[simp] theorem State.setRgu_store (x : Rgu) (j : Fin 8) : (s.setRgu x).store j = s.store j := rfl
@[simp] theorem State.setRgu_output (x : Rgu) (o' : Fin 4) : (s.setRgu x).output o' = s.output o' := rfl
@[simp] theorem State.setRgu_transition (x : Rgu) (o' : Fin 4) (w' : Fin 8) : (s.setRgu x).transition o' w' = s.transition o' w' := rfl
@[simp] theorem State.setRgu_formerOf (x : Rgu) (o' : Fin 4) (w' : Fin 8) : (s.setRgu x).formerOf o' w' = s.formerOf o' w' := rfl
@[simp] theorem State.setRgu_freeze (x : Rgu) (o' : Fin 4) (w' : Fin 8) : (s.setRgu x).freeze o' w' = s.freeze o' w' := rfl
@[simp] theorem State.setRgu_list (x : Rgu) (r' : Fin 4) : (s.setRgu x).list r' = s.list r' := rfl
@[simp] theorem State.setRgu_cue (x : Rgu) (c' : Fin 16) : (s.setRgu x).cue c' = s.cue c' := rfl

/-! ### setTrx -/

@[simp] theorem State.setTrx_trx (x : Trx) : (s.setTrx x).trx = x := rfl
@[simp] theorem State.setTrx_fwd (x : Trx) : (s.setTrx x).fwd = s.fwd := rfl
@[simp] theorem State.setTrx_address (x : Trx) : (s.setTrx x).address = s.address := rfl
@[simp] theorem State.setTrx_stores (x : Trx) : (s.setTrx x).stores = s.stores := rfl
@[simp] theorem State.setTrx_limits (x : Trx) : (s.setTrx x).limits = s.limits := rfl
@[simp] theorem State.setTrx_queue (x : Trx) : (s.setTrx x).queue = s.queue := rfl
@[simp] theorem State.setTrx_memory (x : Trx) : (s.setTrx x).memory = s.memory := rfl
@[simp] theorem State.setTrx_fmc (x : Trx) : (s.setTrx x).fmc = s.fmc := rfl
@[simp] theorem State.setTrx_rgu (x : Trx) : (s.setTrx x).rgu = s.rgu := rfl
@[simp] theorem State.setTrx_outputs (x : Trx) : (s.setTrx x).outputs = s.outputs := rfl
@[simp] theorem State.setTrx_transitions (x : Trx) : (s.setTrx x).transitions = s.transitions := rfl
@[simp] theorem State.setTrx_former (x : Trx) : (s.setTrx x).former = s.former := rfl
@[simp] theorem State.setTrx_freezes (x : Trx) : (s.setTrx x).freezes = s.freezes := rfl
@[simp] theorem State.setTrx_lists (x : Trx) : (s.setTrx x).lists = s.lists := rfl
@[simp] theorem State.setTrx_clock (x : Trx) : (s.setTrx x).clock = s.clock := rfl
@[simp] theorem State.setTrx_cues (x : Trx) : (s.setTrx x).cues = s.cues := rfl
@[simp] theorem State.setTrx_plans (x : Trx) : (s.setTrx x).plans = s.plans := rfl
@[simp] theorem State.setTrx_samples (x : Trx) : (s.setTrx x).samples = s.samples := rfl
@[simp] theorem State.setTrx_survey (x : Trx) : (s.setTrx x).survey = s.survey := rfl
@[simp] theorem State.setTrx_conditions (x : Trx) : (s.setTrx x).conditions = s.conditions := rfl
@[simp] theorem State.setTrx_lastReset (x : Trx) : (s.setTrx x).lastReset = s.lastReset := rfl
@[simp] theorem State.setTrx_early (x : Trx) : (s.setTrx x).early = s.early := rfl
@[simp] theorem State.setTrx_freeCount (x : Trx) : (s.setTrx x).freeCount = s.freeCount := rfl
@[simp] theorem State.setTrx_pending (x : Trx) : (s.setTrx x).pending = s.pending := rfl
@[simp] theorem State.setTrx_store (x : Trx) (j : Fin 8) : (s.setTrx x).store j = s.store j := rfl
@[simp] theorem State.setTrx_output (x : Trx) (o' : Fin 4) : (s.setTrx x).output o' = s.output o' := rfl
@[simp] theorem State.setTrx_transition (x : Trx) (o' : Fin 4) (w' : Fin 8) : (s.setTrx x).transition o' w' = s.transition o' w' := rfl
@[simp] theorem State.setTrx_formerOf (x : Trx) (o' : Fin 4) (w' : Fin 8) : (s.setTrx x).formerOf o' w' = s.formerOf o' w' := rfl
@[simp] theorem State.setTrx_freeze (x : Trx) (o' : Fin 4) (w' : Fin 8) : (s.setTrx x).freeze o' w' = s.freeze o' w' := rfl
@[simp] theorem State.setTrx_list (x : Trx) (r' : Fin 4) : (s.setTrx x).list r' = s.list r' := rfl
@[simp] theorem State.setTrx_cue (x : Trx) (c' : Fin 16) : (s.setTrx x).cue c' = s.cue c' := rfl

/-! ### send -/

@[simp] theorem State.send_trx (x : Sent) : (s.send x).trx = s.trx := rfl
@[simp] theorem State.send_fwd (x : Sent) : (s.send x).fwd = ⟨x, false⟩ := rfl
@[simp] theorem State.send_address (x : Sent) : (s.send x).address = s.address := rfl
@[simp] theorem State.send_stores (x : Sent) : (s.send x).stores = s.stores := rfl
@[simp] theorem State.send_limits (x : Sent) : (s.send x).limits = s.limits := rfl
@[simp] theorem State.send_queue (x : Sent) : (s.send x).queue = s.queue := rfl
@[simp] theorem State.send_memory (x : Sent) : (s.send x).memory = s.memory := rfl
@[simp] theorem State.send_fmc (x : Sent) : (s.send x).fmc = s.fmc := rfl
@[simp] theorem State.send_rgu (x : Sent) : (s.send x).rgu = s.rgu := rfl
@[simp] theorem State.send_outputs (x : Sent) : (s.send x).outputs = s.outputs := rfl
@[simp] theorem State.send_transitions (x : Sent) : (s.send x).transitions = s.transitions := rfl
@[simp] theorem State.send_former (x : Sent) : (s.send x).former = s.former := rfl
@[simp] theorem State.send_freezes (x : Sent) : (s.send x).freezes = s.freezes := rfl
@[simp] theorem State.send_lists (x : Sent) : (s.send x).lists = s.lists := rfl
@[simp] theorem State.send_clock (x : Sent) : (s.send x).clock = s.clock := rfl
@[simp] theorem State.send_cues (x : Sent) : (s.send x).cues = s.cues := rfl
@[simp] theorem State.send_plans (x : Sent) : (s.send x).plans = s.plans := rfl
@[simp] theorem State.send_samples (x : Sent) : (s.send x).samples = s.samples := rfl
@[simp] theorem State.send_survey (x : Sent) : (s.send x).survey = s.survey := rfl
@[simp] theorem State.send_conditions (x : Sent) : (s.send x).conditions = s.conditions := rfl
@[simp] theorem State.send_lastReset (x : Sent) : (s.send x).lastReset = s.lastReset := rfl
@[simp] theorem State.send_early (x : Sent) : (s.send x).early = s.early := rfl
@[simp] theorem State.send_freeCount (x : Sent) : (s.send x).freeCount = s.freeCount := rfl
@[simp] theorem State.send_pending (x : Sent) : (s.send x).pending = s.pending := rfl
@[simp] theorem State.send_store (x : Sent) (j : Fin 8) : (s.send x).store j = s.store j := rfl
@[simp] theorem State.send_output (x : Sent) (o' : Fin 4) : (s.send x).output o' = s.output o' := rfl
@[simp] theorem State.send_transition (x : Sent) (o' : Fin 4) (w' : Fin 8) : (s.send x).transition o' w' = s.transition o' w' := rfl
@[simp] theorem State.send_formerOf (x : Sent) (o' : Fin 4) (w' : Fin 8) : (s.send x).formerOf o' w' = s.formerOf o' w' := rfl
@[simp] theorem State.send_freeze (x : Sent) (o' : Fin 4) (w' : Fin 8) : (s.send x).freeze o' w' = s.freeze o' w' := rfl
@[simp] theorem State.send_list (x : Sent) (r' : Fin 4) : (s.send x).list r' = s.list r' := rfl
@[simp] theorem State.send_cue (x : Sent) (c' : Fin 16) : (s.send x).cue c' = s.cue c' := rfl

/-! ### mark -/

@[simp] theorem State.mark_trx (x : FrameEndMark) : (s.mark x).trx = s.trx := rfl
@[simp] theorem State.mark_fwd (x : FrameEndMark) : (s.mark x).fwd = s.fwd := rfl
@[simp] theorem State.mark_address (x : FrameEndMark) : (s.mark x).address = s.address := rfl
@[simp] theorem State.mark_stores (x : FrameEndMark) : (s.mark x).stores = s.stores := rfl
@[simp] theorem State.mark_limits (x : FrameEndMark) : (s.mark x).limits = s.limits := rfl
@[simp] theorem State.mark_queue (x : FrameEndMark) : (s.mark x).queue = s.queue := rfl
@[simp] theorem State.mark_memory (x : FrameEndMark) : (s.mark x).memory = s.memory := rfl
@[simp] theorem State.mark_fmc (x : FrameEndMark) : (s.mark x).fmc = s.fmc := rfl
@[simp] theorem State.mark_rgu (x : FrameEndMark) : (s.mark x).rgu = s.rgu := rfl
@[simp] theorem State.mark_outputs (x : FrameEndMark) : (s.mark x).outputs = s.outputs := rfl
@[simp] theorem State.mark_transitions (x : FrameEndMark) : (s.mark x).transitions = s.transitions := rfl
@[simp] theorem State.mark_former (x : FrameEndMark) : (s.mark x).former = s.former := rfl
@[simp] theorem State.mark_freezes (x : FrameEndMark) : (s.mark x).freezes = s.freezes := rfl
@[simp] theorem State.mark_lists (x : FrameEndMark) : (s.mark x).lists = s.lists := rfl
@[simp] theorem State.mark_clock (x : FrameEndMark) : (s.mark x).clock = s.clock := rfl
@[simp] theorem State.mark_cues (x : FrameEndMark) : (s.mark x).cues = s.cues := rfl
@[simp] theorem State.mark_plans (x : FrameEndMark) : (s.mark x).plans = s.plans := rfl
@[simp] theorem State.mark_samples (x : FrameEndMark) : (s.mark x).samples = s.samples := rfl
@[simp] theorem State.mark_survey (x : FrameEndMark) : (s.mark x).survey = s.survey := rfl
@[simp] theorem State.mark_conditions (x : FrameEndMark) : (s.mark x).conditions = s.conditions := rfl
@[simp] theorem State.mark_lastReset (x : FrameEndMark) : (s.mark x).lastReset = s.lastReset := rfl
@[simp] theorem State.mark_early (x : FrameEndMark) : (s.mark x).early = x :: s.early := rfl
@[simp] theorem State.mark_freeCount (x : FrameEndMark) : (s.mark x).freeCount = s.freeCount := rfl
@[simp] theorem State.mark_pending (x : FrameEndMark) : (s.mark x).pending = s.pending := rfl
@[simp] theorem State.mark_store (x : FrameEndMark) (j : Fin 8) : (s.mark x).store j = s.store j := rfl
@[simp] theorem State.mark_output (x : FrameEndMark) (o' : Fin 4) : (s.mark x).output o' = s.output o' := rfl
@[simp] theorem State.mark_transition (x : FrameEndMark) (o' : Fin 4) (w' : Fin 8) : (s.mark x).transition o' w' = s.transition o' w' := rfl
@[simp] theorem State.mark_formerOf (x : FrameEndMark) (o' : Fin 4) (w' : Fin 8) : (s.mark x).formerOf o' w' = s.formerOf o' w' := rfl
@[simp] theorem State.mark_freeze (x : FrameEndMark) (o' : Fin 4) (w' : Fin 8) : (s.mark x).freeze o' w' = s.freeze o' w' := rfl
@[simp] theorem State.mark_list (x : FrameEndMark) (r' : Fin 4) : (s.mark x).list r' = s.list r' := rfl
@[simp] theorem State.mark_cue (x : FrameEndMark) (c' : Fin 16) : (s.mark x).cue c' = s.cue c' := rfl

/-! ### raise -/

@[simp] theorem State.raise_trx (c : Condition) : (s.raise c).trx = s.trx := rfl
@[simp] theorem State.raise_fwd (c : Condition) : (s.raise c).fwd = s.fwd := rfl
@[simp] theorem State.raise_address (c : Condition) : (s.raise c).address = s.address := rfl
@[simp] theorem State.raise_stores (c : Condition) : (s.raise c).stores = s.stores := rfl
@[simp] theorem State.raise_limits (c : Condition) : (s.raise c).limits = s.limits := rfl
@[simp] theorem State.raise_queue (c : Condition) : (s.raise c).queue = s.queue := rfl
@[simp] theorem State.raise_memory (c : Condition) : (s.raise c).memory = s.memory := rfl
@[simp] theorem State.raise_fmc (c : Condition) : (s.raise c).fmc = s.fmc := rfl
@[simp] theorem State.raise_rgu (c : Condition) : (s.raise c).rgu = s.rgu := rfl
@[simp] theorem State.raise_outputs (c : Condition) : (s.raise c).outputs = s.outputs := rfl
@[simp] theorem State.raise_transitions (c : Condition) : (s.raise c).transitions = s.transitions := rfl
@[simp] theorem State.raise_former (c : Condition) : (s.raise c).former = s.former := rfl
@[simp] theorem State.raise_freezes (c : Condition) : (s.raise c).freezes = s.freezes := rfl
@[simp] theorem State.raise_lists (c : Condition) : (s.raise c).lists = s.lists := rfl
@[simp] theorem State.raise_clock (c : Condition) : (s.raise c).clock = s.clock := rfl
@[simp] theorem State.raise_cues (c : Condition) : (s.raise c).cues = s.cues := rfl
@[simp] theorem State.raise_plans (c : Condition) : (s.raise c).plans = s.plans := rfl
@[simp] theorem State.raise_samples (c : Condition) : (s.raise c).samples = s.samples := rfl
@[simp] theorem State.raise_survey (c : Condition) : (s.raise c).survey = s.survey := rfl
@[simp] theorem State.raise_conditions (c : Condition) : (s.raise c).conditions = s.conditions ||| c.mask := rfl
@[simp] theorem State.raise_lastReset (c : Condition) : (s.raise c).lastReset = s.lastReset := rfl
@[simp] theorem State.raise_early (c : Condition) : (s.raise c).early = s.early := rfl
@[simp] theorem State.raise_freeCount (c : Condition) : (s.raise c).freeCount = s.freeCount := rfl
@[simp] theorem State.raise_pending (c : Condition) : (s.raise c).pending = s.pending := rfl
@[simp] theorem State.raise_store (c : Condition) (j : Fin 8) : (s.raise c).store j = s.store j := rfl
@[simp] theorem State.raise_output (c : Condition) (o' : Fin 4) : (s.raise c).output o' = s.output o' := rfl
@[simp] theorem State.raise_transition (c : Condition) (o' : Fin 4) (w' : Fin 8) : (s.raise c).transition o' w' = s.transition o' w' := rfl
@[simp] theorem State.raise_formerOf (c : Condition) (o' : Fin 4) (w' : Fin 8) : (s.raise c).formerOf o' w' = s.formerOf o' w' := rfl
@[simp] theorem State.raise_freeze (c : Condition) (o' : Fin 4) (w' : Fin 8) : (s.raise c).freeze o' w' = s.freeze o' w' := rfl
@[simp] theorem State.raise_list (c : Condition) (r' : Fin 4) : (s.raise c).list r' = s.list r' := rfl
@[simp] theorem State.raise_cue (c : Condition) (c' : Fin 16) : (s.raise c).cue c' = s.cue c' := rfl

/-! ### goodCell -/

@[simp] theorem State.goodCell_trx : (s.goodCell).trx = { s.trx with consecErrors := 0 } := rfl
@[simp] theorem State.goodCell_fwd : (s.goodCell).fwd = s.fwd := rfl
@[simp] theorem State.goodCell_address : (s.goodCell).address = s.address := rfl
@[simp] theorem State.goodCell_stores : (s.goodCell).stores = s.stores := rfl
@[simp] theorem State.goodCell_limits : (s.goodCell).limits = s.limits := rfl
@[simp] theorem State.goodCell_queue : (s.goodCell).queue = s.queue := rfl
@[simp] theorem State.goodCell_memory : (s.goodCell).memory = s.memory := rfl
@[simp] theorem State.goodCell_fmc : (s.goodCell).fmc = s.fmc := rfl
@[simp] theorem State.goodCell_rgu : (s.goodCell).rgu = s.rgu := rfl
@[simp] theorem State.goodCell_outputs : (s.goodCell).outputs = s.outputs := rfl
@[simp] theorem State.goodCell_transitions : (s.goodCell).transitions = s.transitions := rfl
@[simp] theorem State.goodCell_former : (s.goodCell).former = s.former := rfl
@[simp] theorem State.goodCell_freezes : (s.goodCell).freezes = s.freezes := rfl
@[simp] theorem State.goodCell_lists : (s.goodCell).lists = s.lists := rfl
@[simp] theorem State.goodCell_clock : (s.goodCell).clock = s.clock := rfl
@[simp] theorem State.goodCell_cues : (s.goodCell).cues = s.cues := rfl
@[simp] theorem State.goodCell_plans : (s.goodCell).plans = s.plans := rfl
@[simp] theorem State.goodCell_samples : (s.goodCell).samples = s.samples := rfl
@[simp] theorem State.goodCell_survey : (s.goodCell).survey = s.survey := rfl
@[simp] theorem State.goodCell_conditions : (s.goodCell).conditions = s.conditions := rfl
@[simp] theorem State.goodCell_lastReset : (s.goodCell).lastReset = s.lastReset := rfl
@[simp] theorem State.goodCell_early : (s.goodCell).early = s.early := rfl
@[simp] theorem State.goodCell_freeCount : (s.goodCell).freeCount = s.freeCount := rfl
@[simp] theorem State.goodCell_pending : (s.goodCell).pending = s.pending := rfl
@[simp] theorem State.goodCell_store (j : Fin 8) : (s.goodCell).store j = s.store j := rfl
@[simp] theorem State.goodCell_output (o' : Fin 4) : (s.goodCell).output o' = s.output o' := rfl
@[simp] theorem State.goodCell_transition (o' : Fin 4) (w' : Fin 8) : (s.goodCell).transition o' w' = s.transition o' w' := rfl
@[simp] theorem State.goodCell_formerOf (o' : Fin 4) (w' : Fin 8) : (s.goodCell).formerOf o' w' = s.formerOf o' w' := rfl
@[simp] theorem State.goodCell_freeze (o' : Fin 4) (w' : Fin 8) : (s.goodCell).freeze o' w' = s.freeze o' w' := rfl
@[simp] theorem State.goodCell_list (r' : Fin 4) : (s.goodCell).list r' = s.list r' := rfl
@[simp] theorem State.goodCell_cue (c' : Fin 16) : (s.goodCell).cue c' = s.cue c' := rfl

/-! ### raiseIf -/

@[simp] theorem State.raiseIf_trx (b : Bool) (c : Condition) : (s.raiseIf b c).trx = s.trx := by cases b <;> rfl
@[simp] theorem State.raiseIf_fwd (b : Bool) (c : Condition) : (s.raiseIf b c).fwd = s.fwd := by cases b <;> rfl
@[simp] theorem State.raiseIf_address (b : Bool) (c : Condition) : (s.raiseIf b c).address = s.address := by cases b <;> rfl
@[simp] theorem State.raiseIf_stores (b : Bool) (c : Condition) : (s.raiseIf b c).stores = s.stores := by cases b <;> rfl
@[simp] theorem State.raiseIf_limits (b : Bool) (c : Condition) : (s.raiseIf b c).limits = s.limits := by cases b <;> rfl
@[simp] theorem State.raiseIf_queue (b : Bool) (c : Condition) : (s.raiseIf b c).queue = s.queue := by cases b <;> rfl
@[simp] theorem State.raiseIf_memory (b : Bool) (c : Condition) : (s.raiseIf b c).memory = s.memory := by cases b <;> rfl
@[simp] theorem State.raiseIf_fmc (b : Bool) (c : Condition) : (s.raiseIf b c).fmc = s.fmc := by cases b <;> rfl
@[simp] theorem State.raiseIf_rgu (b : Bool) (c : Condition) : (s.raiseIf b c).rgu = s.rgu := by cases b <;> rfl
@[simp] theorem State.raiseIf_outputs (b : Bool) (c : Condition) : (s.raiseIf b c).outputs = s.outputs := by cases b <;> rfl
@[simp] theorem State.raiseIf_transitions (b : Bool) (c : Condition) : (s.raiseIf b c).transitions = s.transitions := by cases b <;> rfl
@[simp] theorem State.raiseIf_former (b : Bool) (c : Condition) : (s.raiseIf b c).former = s.former := by cases b <;> rfl
@[simp] theorem State.raiseIf_freezes (b : Bool) (c : Condition) : (s.raiseIf b c).freezes = s.freezes := by cases b <;> rfl
@[simp] theorem State.raiseIf_lists (b : Bool) (c : Condition) : (s.raiseIf b c).lists = s.lists := by cases b <;> rfl
@[simp] theorem State.raiseIf_clock (b : Bool) (c : Condition) : (s.raiseIf b c).clock = s.clock := by cases b <;> rfl
@[simp] theorem State.raiseIf_cues (b : Bool) (c : Condition) : (s.raiseIf b c).cues = s.cues := by cases b <;> rfl
@[simp] theorem State.raiseIf_plans (b : Bool) (c : Condition) : (s.raiseIf b c).plans = s.plans := by cases b <;> rfl
@[simp] theorem State.raiseIf_samples (b : Bool) (c : Condition) : (s.raiseIf b c).samples = s.samples := by cases b <;> rfl
@[simp] theorem State.raiseIf_survey (b : Bool) (c : Condition) : (s.raiseIf b c).survey = s.survey := by cases b <;> rfl
@[simp] theorem State.raiseIf_conditions (b : Bool) (c : Condition) :
    (s.raiseIf b c).conditions = if b then s.conditions ||| c.mask else s.conditions := by cases b <;> rfl
@[simp] theorem State.raiseIf_lastReset (b : Bool) (c : Condition) : (s.raiseIf b c).lastReset = s.lastReset := by cases b <;> rfl
@[simp] theorem State.raiseIf_early (b : Bool) (c : Condition) : (s.raiseIf b c).early = s.early := by cases b <;> rfl
@[simp] theorem State.raiseIf_freeCount (b : Bool) (c : Condition) : (s.raiseIf b c).freeCount = s.freeCount := by cases b <;> rfl
@[simp] theorem State.raiseIf_pending (b : Bool) (c : Condition) : (s.raiseIf b c).pending = s.pending := by cases b <;> rfl
@[simp] theorem State.raiseIf_store (b : Bool) (c : Condition) (j : Fin 8) : (s.raiseIf b c).store j = s.store j := by cases b <;> rfl
@[simp] theorem State.raiseIf_output (b : Bool) (c : Condition) (o' : Fin 4) : (s.raiseIf b c).output o' = s.output o' := by cases b <;> rfl
@[simp] theorem State.raiseIf_transition (b : Bool) (c : Condition) (o' : Fin 4) (w' : Fin 8) : (s.raiseIf b c).transition o' w' = s.transition o' w' := by cases b <;> rfl
@[simp] theorem State.raiseIf_formerOf (b : Bool) (c : Condition) (o' : Fin 4) (w' : Fin 8) : (s.raiseIf b c).formerOf o' w' = s.formerOf o' w' := by cases b <;> rfl
@[simp] theorem State.raiseIf_freeze (b : Bool) (c : Condition) (o' : Fin 4) (w' : Fin 8) : (s.raiseIf b c).freeze o' w' = s.freeze o' w' := by cases b <;> rfl
@[simp] theorem State.raiseIf_list (b : Bool) (c : Condition) (r' : Fin 4) : (s.raiseIf b c).list r' = s.list r' := by cases b <;> rfl
@[simp] theorem State.raiseIf_cue (b : Bool) (c : Condition) (c' : Fin 16) : (s.raiseIf b c).cue c' = s.cue c' := by cases b <;> rfl

/-! ### The indexed readings of what was written -/

@[simp] theorem State.setStore_store (i : Fin 8) (x : Store) (j : Fin 8) :
    (s.setStore i x).store j = if i = j then x else s.store j := by simp [State.setStore, State.store]

@[simp] theorem State.setOutput_output (o : Fin 4) (x : Output) (p : Fin 4) :
    (s.setOutput o x).output p = if o = p then x else s.output p := by simp [State.setOutput, State.output]

@[simp] theorem State.setTransition_transition (o : Fin 4) (w : Fin 8) (x : TransitionRecord) (o' : Fin 4) (w' : Fin 8) :
    (s.setTransition o w x).transition o' w' = if o = o' ∧ w = w' then x else s.transition o' w' := by
  simp [State.setTransition, State.transition]

@[simp] theorem State.setFormer_formerOf (o : Fin 4) (w : Fin 8) (x : Option (Option Content)) (o' : Fin 4) (w' : Fin 8) :
    (s.setFormer o w x).formerOf o' w' = if o = o' ∧ w = w' then x else s.formerOf o' w' := by
  simp [State.setFormer, State.formerOf]

@[simp] theorem State.setFreeze_freeze (o : Fin 4) (w : Fin 8) (x : FreezeRecord) (o' : Fin 4) (w' : Fin 8) :
    (s.setFreeze o w x).freeze o' w' = if o = o' ∧ w = w' then x else s.freeze o' w' := by
  simp [State.setFreeze, State.freeze]

@[simp] theorem State.setList_list (r : Fin 4) (x : RotationList) (r' : Fin 4) :
    (s.setList r x).list r' = if r = r' then x else s.list r' := by simp [State.setList, State.list]

@[simp] theorem State.setCue_cue (c : Fin 16) (x : Option Cue) (c' : Fin 16) :
    (s.setCue c x).cue c' = if c = c' then x else s.cue c' := by simp [State.setCue, State.cue]

@[simp] theorem Store.setSlot_slot (st : Store) (k : Fin 3) (x : SlotRecord) (j : Fin 3) :
    (st.setSlot k x).slot j = if k = j then x else st.slot j := by simp [Store.setSlot, Store.slot]

@[simp] theorem Store.setPins_slot (st : Store) (k : Fin 3) (n : Nat) (j : Fin 3) :
    (st.setPins k n).slot j = if k = j then { st.slot k with pins := n } else st.slot j := by simp [Store.setPins]

@[simp] theorem Store.setSlot_binding (st : Store) (k : Fin 3) (x : SlotRecord) : (st.setSlot k x).binding = st.binding := rfl
@[simp] theorem Store.setSlot_state (st : Store) (k : Fin 3) (x : SlotRecord) : (st.setSlot k x).state = st.state := rfl
@[simp] theorem Store.setSlot_silence (st : Store) (k : Fin 3) (x : SlotRecord) : (st.setSlot k x).silence = st.silence := rfl
@[simp] theorem Store.setSlot_completions (st : Store) (k : Fin 3) (x : SlotRecord) :
    (st.setSlot k x).completions = st.completions := rfl
@[simp] theorem Store.setSlot_dropping (st : Store) (k : Fin 3) (x : SlotRecord) : (st.setSlot k x).dropping = st.dropping := rfl
@[simp] theorem Store.setSlot_completed (st : Store) (k : Fin 3) (x : SlotRecord) : (st.setSlot k x).completed = st.completed := rfl
@[simp] theorem Store.setSlot_dropped (st : Store) (k : Fin 3) (x : SlotRecord) : (st.setSlot k x).dropped = st.dropped := rfl
@[simp] theorem Store.setSlot_damaged (st : Store) (k : Fin 3) (x : SlotRecord) : (st.setSlot k x).damaged = st.damaged := rfl
@[simp] theorem Store.setSlot_stray (st : Store) (k : Fin 3) (x : SlotRecord) : (st.setSlot k x).stray = st.stray := rfl
@[simp] theorem Store.setPins_binding (st : Store) (k : Fin 3) (n : Nat) : (st.setPins k n).binding = st.binding := rfl
@[simp] theorem Store.setPins_state (st : Store) (k : Fin 3) (n : Nat) : (st.setPins k n).state = st.state := rfl

/-- Two states with the same fields are equal; the fields are compared one by one. -/
theorem State.ext_fields {s t : State} (h1 : s.trx = t.trx) (h2 : s.fwd = t.fwd) (h3 : s.address = t.address)
    (h4 : s.stores = t.stores) (h5 : s.limits = t.limits) (h6 : s.queue = t.queue) (h7 : s.memory = t.memory)
    (h8 : s.rgu = t.rgu) (h9 : s.outputs = t.outputs) (h10 : s.transitions = t.transitions) (h11 : s.former = t.former)
    (h12 : s.freezes = t.freezes) (h13 : s.lists = t.lists) (h14 : s.clock = t.clock) (h15 : s.cues = t.cues)
    (h16 : s.plans = t.plans) (h17 : s.survey = t.survey) (h18 : s.conditions = t.conditions)
    (h19 : s.lastReset = t.lastReset) (h20 : s.early = t.early) (h21 : s.freeCount = t.freeCount)
    (h22 : s.pending = t.pending) (h23 : s.fmc = t.fmc) (h24 : s.samples = t.samples) : s = t := by
  cases s; cases t; simp_all

end Sys2Proof.Machine
end

