-- ==== Sys2Proof/Laws/Fmc.lean ====
section
/-! SUPPORT. The frame memory controller: what moving the raster, granting a fetch and serving the waiting fetches leave and change. -/

namespace Sys2Proof.Machine

variable (s : State)

/-! ### moveTick -/

@[simp] theorem moveTick_trx (tick : Nat) : (moveTick tick s).trx = s.trx := rfl
@[simp] theorem moveTick_fwd (tick : Nat) : (moveTick tick s).fwd = s.fwd := rfl
@[simp] theorem moveTick_address (tick : Nat) : (moveTick tick s).address = s.address := rfl
@[simp] theorem moveTick_stores (tick : Nat) : (moveTick tick s).stores = s.stores := rfl
@[simp] theorem moveTick_limits (tick : Nat) : (moveTick tick s).limits = s.limits := rfl
@[simp] theorem moveTick_queue (tick : Nat) : (moveTick tick s).queue = s.queue := rfl
@[simp] theorem moveTick_memory (tick : Nat) : (moveTick tick s).memory = s.memory := rfl
@[simp] theorem moveTick_outputs (tick : Nat) : (moveTick tick s).outputs = s.outputs := rfl
@[simp] theorem moveTick_transitions (tick : Nat) : (moveTick tick s).transitions = s.transitions := rfl
@[simp] theorem moveTick_former (tick : Nat) : (moveTick tick s).former = s.former := rfl
@[simp] theorem moveTick_freezes (tick : Nat) : (moveTick tick s).freezes = s.freezes := rfl
@[simp] theorem moveTick_lists (tick : Nat) : (moveTick tick s).lists = s.lists := rfl
@[simp] theorem moveTick_clock (tick : Nat) : (moveTick tick s).clock = s.clock := rfl
@[simp] theorem moveTick_cues (tick : Nat) : (moveTick tick s).cues = s.cues := rfl
@[simp] theorem moveTick_plans (tick : Nat) : (moveTick tick s).plans = s.plans := rfl
@[simp] theorem moveTick_survey (tick : Nat) : (moveTick tick s).survey = s.survey := rfl
@[simp] theorem moveTick_conditions (tick : Nat) : (moveTick tick s).conditions = s.conditions := rfl
@[simp] theorem moveTick_lastReset (tick : Nat) : (moveTick tick s).lastReset = s.lastReset := rfl
@[simp] theorem moveTick_early (tick : Nat) : (moveTick tick s).early = s.early := rfl
@[simp] theorem moveTick_freeCount (tick : Nat) : (moveTick tick s).freeCount = s.freeCount := rfl
@[simp] theorem moveTick_pending (tick : Nat) : (moveTick tick s).pending = s.pending := rfl
@[simp] theorem moveTick_rgu (tick : Nat) : (moveTick tick s).rgu = { s.rgu with tick } := rfl
@[simp] theorem moveTick_samples (tick : Nat) : (moveTick tick s).samples = Vector.replicate 4 none := rfl
@[simp] theorem moveTick_grant (tick : Nat) : (moveTick tick s).fmc.grant = none := rfl

/-! ### grantFetch -/

@[simp] theorem grantFetch_trx (x : Fetch) : (grantFetch x s).trx = s.trx := rfl
@[simp] theorem grantFetch_fwd (x : Fetch) : (grantFetch x s).fwd = s.fwd := rfl
@[simp] theorem grantFetch_address (x : Fetch) : (grantFetch x s).address = s.address := rfl
@[simp] theorem grantFetch_stores (x : Fetch) : (grantFetch x s).stores = s.stores := rfl
@[simp] theorem grantFetch_limits (x : Fetch) : (grantFetch x s).limits = s.limits := rfl
@[simp] theorem grantFetch_queue (x : Fetch) : (grantFetch x s).queue = s.queue := rfl
@[simp] theorem grantFetch_memory (x : Fetch) : (grantFetch x s).memory = s.memory := rfl
@[simp] theorem grantFetch_rgu (x : Fetch) : (grantFetch x s).rgu = s.rgu := rfl
@[simp] theorem grantFetch_outputs (x : Fetch) : (grantFetch x s).outputs = s.outputs := rfl
@[simp] theorem grantFetch_transitions (x : Fetch) : (grantFetch x s).transitions = s.transitions := rfl
@[simp] theorem grantFetch_former (x : Fetch) : (grantFetch x s).former = s.former := rfl
@[simp] theorem grantFetch_freezes (x : Fetch) : (grantFetch x s).freezes = s.freezes := rfl
@[simp] theorem grantFetch_lists (x : Fetch) : (grantFetch x s).lists = s.lists := rfl
@[simp] theorem grantFetch_clock (x : Fetch) : (grantFetch x s).clock = s.clock := rfl
@[simp] theorem grantFetch_cues (x : Fetch) : (grantFetch x s).cues = s.cues := rfl
@[simp] theorem grantFetch_plans (x : Fetch) : (grantFetch x s).plans = s.plans := rfl
@[simp] theorem grantFetch_survey (x : Fetch) : (grantFetch x s).survey = s.survey := rfl
@[simp] theorem grantFetch_conditions (x : Fetch) : (grantFetch x s).conditions = s.conditions := rfl
@[simp] theorem grantFetch_lastReset (x : Fetch) : (grantFetch x s).lastReset = s.lastReset := rfl
@[simp] theorem grantFetch_early (x : Fetch) : (grantFetch x s).early = s.early := rfl
@[simp] theorem grantFetch_freeCount (x : Fetch) : (grantFetch x s).freeCount = s.freeCount := rfl
@[simp] theorem grantFetch_pending (x : Fetch) : (grantFetch x s).pending = s.pending := rfl
@[simp] theorem grantFetch_fetches (x : Fetch) : (grantFetch x s).fmc.fetches = s.fmc.fetches.erase x := rfl
@[simp] theorem grantFetch_grant (x : Fetch) : (grantFetch x s).fmc.grant = some (.fetch x) := rfl
@[simp] theorem grantFetch_samples (x : Fetch) :
    (grantFetch x s).samples = tset s.samples x.output (s.scanPixel x.output) := rfl

/-! ### Arbitration -/

/-- The fetch that has waited longest is one that waits. -/
theorem longestWaiting_mem {l : List Fetch} {f : Fetch} (h : longestWaiting l = some f) : f ∈ l := by
  induction l generalizing f with
  | nil => cases h
  | cons g l ih =>
    simp only [longestWaiting] at h
    split at h
    · cases h; exact List.mem_cons_self
    · rename_i k hk
      split at h <;> cases h
      · exact List.mem_cons_self
      · exact List.mem_cons_of_mem _ (ih hk)

/-- None has waited longest only where none waits. -/
theorem longestWaiting_none {l : List Fetch} : longestWaiting l = none ↔ l = [] := by
  cases l with
  | nil => simp [longestWaiting]
  | cons g l =>
    simp only [longestWaiting, reduceCtorEq, iff_false]
    split
    · simp
    · split <;> simp

/-- What FMC grants is a fetch that waits, or the head of a queue while no fetch waits. -/
theorem arbitrate_cases {s : State} {g : Grant} (h : s.arbitrate = some g) :
    (∃ f, f ∈ s.fmc.fetches ∧ g = .fetch f) ∨ (s.fmc.fetches = [] ∧ s.queue ≠ [] ∧ g = .queueHead) := by
  unfold State.arbitrate at h
  split at h
  · cases h
  · rename_i f hf _
    cases h
    exact .inl ⟨f, longestWaiting_mem hf, rfl⟩
  · cases h
  · rename_i hn hq _
    cases h
    exact .inr ⟨longestWaiting_none.1 hn, by simp [hq], rfl⟩

/-! ### Serving the fetches -/

/-- Granting fetches touches FMC and the samples alone. -/
theorem serveUpTo_eq (n : Nat) (s : State) :
    serveUpTo n s = { s with fmc := (serveUpTo n s).fmc, samples := (serveUpTo n s).samples } := by
  induction n generalizing s with
  | zero => rfl
  | succ n ih =>
    simp only [serveUpTo]
    split
    · exact ih _
    · rfl

/-- Serving the fetches touches FMC and the samples alone. -/
theorem serveFetches_eq : serveFetches s = { s with fmc := (serveFetches s).fmc, samples := (serveFetches s).samples } :=
  serveUpTo_eq _ s

/-- With no fetch waiting there is nothing to serve. -/
theorem serveFetches_of_nil {s : State} (h : s.fmc.fetches = []) : serveFetches s = s := by
  simp [serveFetches, h, serveUpTo]

end Sys2Proof.Machine
end

