-- ==== Sys2Proof/Laws/Geometry.lean ====
section
/-! SUPPORT. Composition's geometry: what it is to lie in a rectangle, in an active area and under a plan entry. -/

namespace Sys2Proof.Machine

/-- A pixel lies in a rectangle between its edges. -/
@[simp] theorem Rect.covers_iff {r : Rect} {x y : Int} :
    r.covers x y = true ↔ r.x ≤ x ∧ x < r.x + r.w ∧ r.y ≤ y ∧ y < r.y + r.h := by
  simp [Rect.covers, and_assoc]

@[simp] theorem PlanEntry.rect_x (e : PlanEntry) : e.rect.x = e.x0 := rfl
@[simp] theorem PlanEntry.rect_y (e : PlanEntry) : e.rect.y = e.y0 := rfl
@[simp] theorem PlanEntry.rect_w (e : PlanEntry) : e.rect.w = e.width := rfl
@[simp] theorem PlanEntry.rect_h (e : PlanEntry) : e.rect.h = e.height := rfl
@[simp] theorem PlanEntry.inner_x (e : PlanEntry) : e.inner.x = e.x0 + e.borderWidth := rfl
@[simp] theorem PlanEntry.inner_y (e : PlanEntry) : e.inner.y = e.y0 + e.borderWidth := rfl
@[simp] theorem PlanEntry.inner_w (e : PlanEntry) : e.inner.w = (e.width : Int) - 2 * e.borderWidth := rfl
@[simp] theorem PlanEntry.inner_h (e : PlanEntry) : e.inner.h = (e.height : Int) - 2 * e.borderWidth := rfl

/-- A pixel lies in a plan's active area. -/
@[simp] theorem FramePlan.active_iff {p : FramePlan} {x y : Int} :
    p.active x y = true ↔ 0 ≤ x ∧ x < p.activeWidth ∧ 0 ≤ y ∧ y < p.activeHeight := by
  simp [FramePlan.active, and_assoc]

/-- A plan entry covers a pixel of the active area that lies in its rectangle. -/
@[simp] theorem FramePlan.covers_iff {p : FramePlan} {e : PlanEntry} {x y : Int} :
    p.covers e x y = true ↔ p.active x y = true ∧ e.rect.covers x y = true := by
  simp [FramePlan.covers]

/-- A covered pixel is blended. -/
theorem blendEntry_covered {m : List (Nat × Colour)} {p : FramePlan} {e : PlanEntry} {x y : Int} (h : p.covers e x y = true)
    (c : Colour) : blendEntry m p x y c e = mix e.opacity (windowValue m e x y) c := by simp only [blendEntry, h, if_true]

/-- A pixel that an entry does not cover is left as it is. -/
theorem blendEntry_uncovered {m : List (Nat × Colour)} {p : FramePlan} {e : PlanEntry} {x y : Int} (h : p.covers e x y = false)
    (c : Colour) : blendEntry m p x y c e = c := by simp [blendEntry, h]

end Sys2Proof.Machine
end

