-- ==== Sys2Proof/Laws/Memory.lean ====
section
/-! SUPPORT. Frame memory: every write keeps the canonical form, and a read after a write gives what was written there and leaves every
other position alone. -/

namespace Sys2Proof.Machine

/-- Every listed position of a memory is greater than `p`. -/
def memAbove (p : Nat) (m : List (Nat × Colour)) : Prop := ∀ e ∈ m, p < e.1

/-- The canonical form, position by position. -/
theorem memWf_cons (k : Nat) (c : Colour) (rest : List (Nat × Colour)) :
    memWf ((k, c) :: rest) = true ↔ c ≠ Colour.black ∧ memAbove k rest ∧ memWf rest = true := by
  induction rest generalizing k c with
  | nil => simp [memWf, memAbove]
  | cons e rest ih =>
    obtain ⟨k', c'⟩ := e
    have h := ih k' c'
    simp only [memWf, Bool.and_eq_true, decide_eq_true_eq, ne_eq, memAbove, List.mem_cons, forall_eq_or_imp] at h ⊢
    constructor
    · rintro ⟨⟨h1, h2⟩, h3⟩
      refine ⟨by simpa using h1, ⟨h2, fun e he => ?_⟩, h3⟩
      exact lt_trans h2 ((h.1 h3).2.1 e he)
    · rintro ⟨h1, ⟨h2, -⟩, h3⟩
      exact ⟨⟨by simpa using h1, h2⟩, h3⟩

/-- A position below every listed one reads black. -/
theorem memRead_above {p : Nat} {m : List (Nat × Colour)} (h : memAbove p m) : memRead m p = Colour.black := by
  induction m with
  | nil => rfl
  | cons e rest ih =>
    obtain ⟨k, c⟩ := e
    have hk : p < k := h (k, c) (by simp)
    have : k ≠ p := by omega
    simp only [memRead, this, if_false]
    exact ih fun e he => h e (by simp [he])

/-- A write lists no position that was not listed, but the one it writes. -/
theorem memAbove_memWrite {q p : Nat} {m : List (Nat × Colour)} (c : Colour) (h : memAbove q m) (hp : q < p) :
    memAbove q (memWrite m p c) := by
  induction m with
  | nil =>
    simp only [memWrite]
    split
    · exact h
    · intro e he; simp only [List.mem_singleton] at he; subst he; exact hp
  | cons e rest ih =>
    obtain ⟨k, d⟩ := e
    have hr : memAbove q rest := fun e he => h e (by simp [he])
    simp only [memWrite]
    split
    · split
      · exact h
      · intro e he
        rcases List.mem_cons.1 he with rfl | he
        · exact hp
        · exact h e he
    · split
      · split
        · exact hr
        · intro e he
          rcases List.mem_cons.1 he with rfl | he
          · exact hp
          · exact hr e he
      · intro e he
        rcases List.mem_cons.1 he with rfl | he
        · exact h (k, d) (by simp)
        · exact ih hr e he

/-- A write keeps the canonical form. -/
theorem memWrite_wf {m : List (Nat × Colour)} (p : Nat) (c : Colour) (h : memWf m = true) : memWf (memWrite m p c) = true := by
  induction m with
  | nil =>
    simp only [memWrite]
    split
    · rfl
    · rename_i hc; simp [memWf, hc]
  | cons e rest ih =>
    obtain ⟨k, d⟩ := e
    obtain ⟨h1, h2, h3⟩ := (memWf_cons k d rest).1 h
    simp only [memWrite]
    split
    · rename_i hk
      split
      · exact h
      · rename_i hc
        refine (memWf_cons _ _ _).2 ⟨hc, fun e he => ?_, h⟩
        rcases List.mem_cons.1 he with rfl | he
        · exact hk
        · exact lt_trans hk (h2 e he)
    · rename_i hk
      split
      · rename_i hk'
        split
        · exact h3
        · rename_i hc
          exact (memWf_cons _ _ _).2 ⟨hc, by rw [hk']; exact h2, h3⟩
      · rename_i hk'
        exact (memWf_cons _ _ _).2 ⟨h1, memAbove_memWrite c h2 (by omega), ih h3⟩

/-- Reading after a write, in a memory in canonical form. -/
theorem memRead_memWrite {m : List (Nat × Colour)} (p q : Nat) (c : Colour) (h : memWf m = true) :
    memRead (memWrite m p c) q = if p = q then c else memRead m q := by
  induction m with
  | nil =>
    simp only [memWrite]
    by_cases hc : c = Colour.black
    · subst hc; simp [memRead]
    · simp [hc, memRead]
  | cons e rest ih =>
    obtain ⟨k, d⟩ := e
    obtain ⟨-, h2, h3⟩ := (memWf_cons k d rest).1 h
    simp only [memWrite]
    split
    · rename_i hk
      split
      · rename_i hc
        by_cases hpq : p = q
        · subst hpq
          rw [if_pos rfl, hc]
          exact memRead_above fun e he => by
            rcases List.mem_cons.1 he with rfl | he
            · exact hk
            · exact lt_trans hk (h2 e he)
        · rw [if_neg hpq]
      · rfl
    · rename_i hk
      split
      · rename_i hk'
        subst hk'
        split
        · rename_i hc
          by_cases hpq : p = q
          · subst hpq; rw [if_pos rfl, hc]; exact memRead_above h2
          · simp [memRead, hpq]
        · by_cases hpq : p = q
          · simp [memRead, hpq]
          · simp [memRead, hpq]
      · rename_i hk'
        simp only [memRead, ih h3]
        by_cases hkq : k = q
        · have : p ≠ q := by omega
          simp [hkq, this]
        · simp [hkq]

/-- A run of pixels keeps the canonical form. -/
theorem memWriteRun_wf (i : Fin 8) (k : Fin 3) (line : Nat) (pixels : List Colour) {m : List (Nat × Colour)} (column : Nat)
    (h : memWf m = true) : memWf (memWriteRun m i k line column pixels) = true := by
  induction pixels generalizing m column with
  | nil => exact h
  | cons c rest ih =>
    simp only [memWriteRun]
    split
    · exact ih _ (memWrite_wf _ _ h)
    · exact h

end Sys2Proof.Machine
end

