-- ==== Sys2Proof/Laws/Ops.lean ====
section
/-! SUPPORT. What the shared operations do: delivering cells and requests, updating the outputs of a mask, window lists. -/

namespace Sys2Proof.Machine

/-! ### Cells and requests -/

/-- A cell that arrives in SYNC is taken. -/
theorem onCell_sync {act : State → State} {s : State} (h : s.trx.link = .sync) : onCell act s = .next (act s.goodCell) := by
  simp [onCell, h]

/-- A cell that arrives out of SYNC is not. -/
theorem onCell_out {act : State → State} {s : State} (h : s.trx.link ≠ .sync) : onCell act s = .next s.noCell := by
  simp [onCell, h]

/-- A cell always has a next state. -/
theorem onCell_next (act : State → State) (s : State) : ∃ t, onCell act s = .next t := ⟨_, rfl⟩

/-- A request addressed to this part. -/
theorem onRequest_own {q : ReqHead} {code : Byte} {own : State → Answer} {all : State → State} {s : State}
    (h : s.trx.link = .sync) (ha : s.address = some q.target) (hq : q.target.toNat ≠ 31) :
    onRequest q code own all s = .next ((own s.goodCell).sent q code) := by
  simp [onRequest, onCell_sync h, Config.broadcastTarget, hq, ha]

/-- A broadcast request. -/
theorem onRequest_broadcast {q : ReqHead} {code : Byte} {own : State → Answer} {all : State → State} {s : State}
    (h : s.trx.link = .sync) (hq : q.target.toNat = 31) :
    onRequest q code own all s = .next ((all s.goodCell).send .unchanged) := by
  simp [onRequest, onCell_sync h, Config.broadcastTarget, hq]

/-- A request for another part. -/
theorem onRequest_other {q : ReqHead} {code : Byte} {own : State → Answer} {all : State → State} {s : State}
    (h : s.trx.link = .sync) (ha : s.address ≠ some q.target) (hq : q.target.toNat ≠ 31) :
    onRequest q code own all s = .next (s.goodCell.send .unchanged) := by
  simp [onRequest, onCell_sync h, Config.broadcastTarget, hq, ha]

/-- A request that arrives out of SYNC. -/
theorem onRequest_out {q : ReqHead} {code : Byte} {own : State → Answer} {all : State → State} {s : State}
    (h : s.trx.link ≠ .sync) : onRequest q code own all s = .next s.noCell := onCell_out h

/-- A request always has a next state. -/
theorem onRequest_next (q : ReqHead) (code : Byte) (own : State → Answer) (all : State → State) (s : State) :
    ∃ t, onRequest q code own all s = .next t := ⟨_, rfl⟩

@[simp] theorem refuse_state (s : State) (code : ReplyCode) : (refuse s code).state = s := rfl
@[simp] theorem refuse_code (s : State) (code : ReplyCode) : (refuse s code).code = code := rfl
@[simp] theorem refuse_result (s : State) (code : ReplyCode) : (refuse s code).result = [] := rfl
@[simp] theorem refuse_attention (s : State) (code : ReplyCode) : (refuse s code).attention = none := rfl

/-- A result that fits is padded to its whole length. -/
theorem padTo_length {n : Nat} {bytes : List Byte} (h : bytes.length ≤ n) : (padTo n bytes).length = n := by
  simp [padTo]; omega

/-! ### Numbered operands -/

/-- A byte that names an item reads as that item. -/
theorem readIndex_of {n : Nat} {b : Byte} {i : Fin n} (h : b.toNat = i.val) : readIndex n b = some i := by
  simp [readIndex, h]

/-- A byte that names no item has no reading. -/
theorem readIndex_none {n : Nat} {b : Byte} (h : n ≤ b.toNat) : readIndex n b = none := by
  simp [readIndex, Nat.not_lt.2 h]

/-! ### Outputs of a mask -/

/-- Updating outputs one after another touches the table of outputs alone. -/
theorem foldl_setOutput (g : Output → Output) (l : List (Fin 4)) (s : State) :
    l.foldl (fun s o => s.setOutput o (g (s.output o))) s
      = { s with outputs := l.foldl (fun v o => tset v o (g (tget v o))) s.outputs } := by
  induction l generalizing s with
  | nil => rfl
  | cons o l ih => exact ih _

/-- Updating each output of a mask by itself. -/
theorem forOutputs_eq (g : Output → Output) (mask : BitVec 4) (s : State) :
    forOutputs mask (fun o s => s.setOutput o (g (s.output o))) s
      = { s with outputs := tmap (fun o out => if mask.getLsbD o.val then g out else out) s.outputs } := by
  have hl : List.finRange 4 = [0, 1, 2, 3] := by decide
  rw [forOutputs, foldl_setOutput, maskOutputs, hl]
  congr 1
  apply table_ext
  intro o
  simp only [List.filter, tget_tmap]
  fin_cases o <;> (split <;> split <;> split <;> split <;> simp_all)

/-! ### Window lists -/

/-- A window is found at its place. -/
theorem findWindow_append {below above : List WindowRecord} {r : WindowRecord} (h : ∀ x ∈ below, x.number ≠ r.number) :
    findWindow (below ++ r :: above) r.number = some r := by
  simp only [findWindow, List.find?_append, List.find?_cons, decide_true]
  have : below.find? (fun x => decide (x.number = r.number)) = none := by
    simpa [List.find?_eq_none] using h
  simp [this]

/-- A window that no record has is not found. -/
theorem findWindow_none {l : List WindowRecord} {w : Fin 8} : findWindow l w = none ↔ ∀ x ∈ l, x.number ≠ w := by
  simp [findWindow, List.find?_eq_none]

/-- Dropping the one record of a number. -/
theorem dropWindow_append {below above : List WindowRecord} {r : WindowRecord} (hb : ∀ x ∈ below, x.number ≠ r.number)
    (ha : ∀ x ∈ above, x.number ≠ r.number) : dropWindow (below ++ r :: above) r.number = below ++ above := by
  simp only [dropWindow, List.filter_append, List.filter_cons, ne_eq, not_true_eq_false, decide_false]
  rw [List.filter_eq_self.2 (by simpa using hb), List.filter_eq_self.2 (by simpa using ha)]
  simp

/-- The position of a window is the number of records below it. -/
theorem windowPosition_append {below above : List WindowRecord} {r : WindowRecord} (h : ∀ x ∈ below, x.number ≠ r.number) :
    windowPosition (below ++ r :: above) r.number = below.length := by
  simp only [windowPosition, List.findIdx_append]
  have : ¬ ∃ x ∈ below, decide (x.number = r.number) = true := by simpa using h
  rw [if_neg]
  · simp [List.findIdx_cons]
  · simpa [List.findIdx_lt_length] using h

/-- Replacing the one record of a number. -/
theorem replaceWindow_append {below above : List WindowRecord} {old r : WindowRecord} (hn : old.number = r.number)
    (hb : ∀ x ∈ below, x.number ≠ r.number) (ha : ∀ x ∈ above, x.number ≠ r.number) :
    replaceWindow (below ++ old :: above) r = below ++ r :: above := by
  simp only [replaceWindow, List.map_append, List.map_cons, hn, if_true]
  congr 1
  · exact (List.map_congr_left fun x hx => if_neg (hb x hx)).trans (List.map_id _)
  · congr 1
    exact (List.map_congr_left fun x hx => if_neg (ha x hx)).trans (List.map_id _)

/-- A content write leaves the numbers, and so the order, of a list. -/
theorem writeContent_numbers (l : List WindowRecord) (w : Fin 8) (c : Content) :
    (writeContent l w c).map WindowRecord.number = l.map WindowRecord.number := by
  simp only [writeContent, List.map_map]
  apply List.map_congr_left
  intro r _
  simp only [Function.comp]
  split <;> rfl

end Sys2Proof.Machine
end

