-- ==== Sys2Proof/Tests/Slice0.lean ====
section
/-! SUPPORT. Tests. Expected results are taken from the spec's worked examples and tables, or computed by hand from its rules; each
test names its source. Then, for every statement with hypotheses, a witness that its hypotheses can be met together. -/

-- The tests are checked one after another: each is a kernel evaluation, and many at once take more threads than the check allows.
set_option Elab.async false

namespace Sys2Proof.Tests

open Sys2Proof Sys2Proof.Machine Sys2Proof.Claims Sys2Proof.Safety

/-! ### Small states -/

/-- A request to address 5, tag 9. -/
def q5 : ReqHead := ⟨5, 9⟩

/-- A broadcast. -/
def qAll : ReqHead := ⟨31, 9⟩

/-- After power-on, but in SYNC, at address 5, with a frame running. -/
def ready : State := { State.reset with
  trx := { State.reset.trx with link := .sync }, address := some 5#8, rgu := { State.reset.rgu with scan := .running } }

/-- The same, between an output frame end and the output frame start that follows it. -/
def between : State := ready.setRgu { ready.rgu with scan := .between }

/-- The state a command answers, from a state; the state itself if it answers no next state. -/
def after (c : Instr) (s : State) : State :=
  match exec c s with
  | .next t => t
  | _ => s

/-- The reply code of the reply on its way downstream, and the first `n` bytes of its result. -/
def repliedWith (n : Nat) (s : State) : Option (ReplyCode × List Byte) :=
  match s.fwd.sent with
  | .reply r => some (r.code, r.result.take n)
  | _ => none

/-- A full-screen record with no optional field. -/
def plain (w : Fin 8) (c : Content) : WindowRecord := ⟨w, c, 0, 0, 1920, 1080, none, 256, none, none⟩

/-- A WINSET record of window `w` showing source `src`: 480 by 270 at (40, 40), opacity 300, no optional field. -/
def rawPlain (w src : Byte) : RawWindow :=
  ⟨w, 0, src ++ 0#24, 40, 40, 480, 270, 0, 0, 0, 0, 0, 300, 0, 0, 0⟩

/-- Both banks of output 0 hold a list. -/
def laid (l : List WindowRecord) (s : State) : State := s.setOutput 0 { s.output 0 with active := l, pending := l }

/-- A COMPLETE slot with completion number `n` and tag `tag`. -/
def full (n : Nat) (tag : Byte) (selected : Bool) (pins : Nat) : SlotRecord :=
  ⟨some ⟨.complete n, tag, 1920, 1080, 2, 2⟩, selected, pins⟩

/-- A slot that receives a frame of tag `tag` and two cells, `next` of them accepted. -/
def filling (tag : Byte) (next : Nat) : SlotRecord := ⟨some ⟨.filling, tag, 1920, 1080, 2, next⟩, false, 0⟩

/-- A store bound to `src`, in source state `st`, with three slots. -/
def store (src : Fin 16) (st : SourceState) (n : Nat) (a b c : SlotRecord) : Store :=
  { Store.reset with binding := some src, state := st, slots := #v[a, b, c], completions := n }

/-- Store 2 is bound to source 3 and LIVE: slot 1 is COMPLETE and selected, with tag 17. -/
def live3 : Store := store 3 .live 1 SlotRecord.reset (full 1 17 true 0) SlotRecord.reset

/-- Window 0 of output 0 shows source 3, which is LIVE. -/
def onAir : State := (laid [plain 0 (.source 3)] ready).setStore 2 live3

/-- A running transition from source 3 to source 4, in frame `f` of `d`. -/
def dissolving (d f : Nat) : TransitionRecord := .running ⟨.source 3, .source 4, .dissolve, d, f, .take⟩

/-! ### Well-formedness: an ill-formed term for each check -/

theorem test_wf_freezeNow : (Instr.freezeNow q5 0 0 1).wellFormed = false ∧ (Instr.freezeNow q5 0 0 0).wellFormed = true := by decide
theorem test_wf_rotset : (Instr.rotset q5 0 1 [1] 1 0 0).wellFormed = false := by decide
theorem test_wf_unknownRequest : (Instr.unknownRequest q5 26).wellFormed = false ∧ (Instr.unknownRequest q5 27).wellFormed = true := by
  decide
theorem test_wf_pic : (Instr.pic 0 0 0 0 0 1 [0]).wellFormed = false := by decide
theorem test_wf_forwardCell : (Instr.forwardCell 3).wellFormed = false ∧ (Instr.forwardCell 7).wellFormed = true := by decide
theorem test_wf_huntHeaderCheck : (Instr.huntHeaderCheck [0] 0).wellFormed = false := by decide
theorem test_wf_outputFrameEnd :
    (Instr.outputFrameEnd [.swap, .swap]).wellFormed = false ∧ (Instr.outputFrameEnd [.swap, .silence]).wellFormed = true := by decide

/-! ### Wire formats (R176, R177, §11) -/

/-- The check of the nine bytes "123456789" with this register and polynomial is 29B1 hex, the published check value of the CRC that
R176 describes (initial value all ones, polynomial 1021 hex, nothing reflected). -/
theorem test_headerCheck : headerCheck [49, 50, 51, 52, 53, 54, 55, 56, 57] = 0x29B1#16 := by decide +kernel

/-- The reply to an IDENT at address 5, tag 9 (§11.2, §11.6): kind 7, address, tag, code 1, DONE, no attention, 945 = 3 · 256 + 177. -/
theorem test_ident_reply : ((replyHeader ⟨5, 9, 1, .done, false, padTo 40 (identResult ready)⟩).take 12) =
    [7, 5, 9, 1, 0, 0, 3, 177, 1, 5, 4, 8] := by decide +kernel

/-- A TIMEBASE cell written out by §11.2: kind 4, then weekday, hour, minute, second, frame. -/
theorem test_decode_timebase : decodeHeader 0 ([4, 6, 18, 0, 59, 59] ++ List.replicate 40 0) [] = .timebase 6 18 0 59 59 := by
  decide +kernel

/-- A FRAME-OPEN cell written out by §11.2: source 3, tag 17, 1920 × 1080, 1080 cells. -/
theorem test_decode_frameOpen :
    decodeHeader 7 ([1, 3, 17, 7, 128, 4, 56, 4, 56] ++ List.replicate 37 0) [] = .frameOpen 3 17 1920 1080 1080 7 := by
  decide +kernel

/-- R177's numbers on STATUS page 0 (TRACK 2, last reset POWER_ON 0, survey IDLE 0) and on a store's page (STALE 3; EMPTY 0, COMPLETE 3,
DAMAGED 4). -/
theorem test_status_numbers :
    let s := (ready.setRgu { ready.rgu with genlock := .track }).setStore 2
      (store 3 .stale 1 SlotRecord.reset (full 1 17 true 0) ⟨some ⟨.damaged, 18, 16, 16, 1, 0⟩, false, 0⟩)
    repliedWith 13 (after (.status q5 0) s) = some (.done, [2, 5, 2, 0, 0, 0, 0, 0, 0, 0, 0, 0, 0])
    ∧ repliedWith 7 (after (.status q5 3) s) = some (.done, [3, 3, 0, 0, 0, 3, 4]) := by decide +kernel

/-- A RASTER request written out by §11.2 and §11.4: the fields of the power-on raster, one less each (§11.3). -/
theorem test_decode_raster :
    decodeHeader 0 ([6, 5, 9, 4, 7, 127, 4, 55, 8, 151, 4, 100, 4, 8, 2, 0] ++ List.replicate 30 0) [] =
      .raster q5 1919 1079 2199 1124 0x04080200#32 := by decide +kernel

/-- A TAKE request written out by §11.4: output 1, window 3, source 6, DISSOLVE, D 10. -/
theorem test_decode_take :
    decodeHeader 0 ([6, 5, 9, 17, 1, 3, 0, 6, 0, 0, 0, 1, 10] ++ List.replicate 33 0) [] = .take q5 1 3 0 0x06000000#32 1 10 := by
  decide +kernel

/-- The word of any row of the table spells no command, since the table gives no bits. -/
theorem test_decodeTableWord : decodeTableWord 0 0 = none := rfl

/-! ### Worked examples of the spec -/

/-- 1.3.1: windows 4, 0, 2, 6; WINMOVE of 4 to position 2 gives 0, 2, 4, 6. -/
def moved : State :=
  after (.winmove q5 1 4 2) (ready.setOutput 1 { Output.reset with
    pending := [plain 4 (.source 1), plain 0 (.source 1), plain 2 (.source 1), plain 6 (.source 1)] })

theorem test_winmove : ((moved.output 1).pending.map WindowRecord.number) = [0, 2, 4, 6]
    ∧ repliedWith 1 moved = some (.done, [2]) := by decide +kernel
theorem test_winmove_top : repliedWith 1 (after (.winmove q5 1 6 9) moved) = some (.done, [3])
    ∧ ((after (.winmove q5 1 6 9) moved).output 1).dirty = true := by decide +kernel
theorem test_windrop : ((after (.windrop q5 1 2) moved).output 1).pending.map WindowRecord.number = [0, 4, 6]
    ∧ repliedWith 1 (after (.windrop q5 1 2) moved) = some (.done, [3]) := by decide +kernel

/-- 1.3.2: the record keeps opacity 256 for 300. -/
theorem test_winset : ((after (.winset q5 0 (rawPlain 2 9)) ready).output 0).pending =
    [⟨2, .source 9, 40, 40, 480, 270, none, 256, none, none⟩] := by decide +kernel

/-- R6: a border width without a border colour is refused. -/
theorem test_winset_border : repliedWith 0 (after (.winset q5 0 { rawPlain 2 9 with presence := 2 }) ready) = some (.range, []) := by
  decide +kernel

/-- 2.7.1: source 3's sample (700, 400, 600) under source 7's (940, 512, 512) at opacity 192 gives (880, 484, 534). -/
theorem test_blend : mix 192 ⟨940, 512, 512⟩ ⟨700, 400, 600⟩ = ⟨880, 484, 534⟩ := by decide +kernel

/-- 2.7.1: the last inner column of the inset reads column 1439, and 2.7.2: column 0 of the output reads column 177. -/
theorem test_sample : samplePosition 480 960 635 636 = 1439 ∧ samplePosition 0 720 96 392 = 177 := by decide +kernel

/-- 2.7.3: the crop (1200, 600, 960, 540) of a frame of 1280 × 720 is (1200, 600, 80, 120), and of one of 960 × 540 is empty. -/
theorem test_crop : effectiveCrop (some ⟨1200, 600, 960, 540⟩) 1280 720 = some ⟨1200, 600, 80, 120⟩
    ∧ effectiveCrop (some ⟨1200, 600, 960, 540⟩) 960 540 = none := by decide +kernel

/-- 2.7.4: a dissolve of D 25 at f 10, and a fade of D 5 at f 1, whose luma is 447; the second half at f 3 has factor 51. -/
theorem test_dissolve : mixedValue .dissolve 25 10 Colour.black ⟨700, 400, 600⟩ ⟨300, 512, 512⟩ = ⟨541, 445, 565⟩ := by decide +kernel
theorem test_fade : (mixedValue .fade 5 1 Colour.black ⟨700, 400, 600⟩ ⟨300, 512, 512⟩).y = 447 ∧ fadeFactor 3 5 = 51 := by
  decide +kernel

/-- R114: pixel (0, 0) of the power-on raster is sent at tick 99000, pixel (1919, 1079) at tick 2474719. -/
theorem test_pixelAt : Raster.reset.pixelAt 2475000 99000 = some (0, 0) ∧ Raster.reset.pixelAt 2475000 2474719 = some (1919, 1079)
    ∧ Raster.reset.pixelAt 2475000 98999 = none := by decide +kernel

/-- R34: of a window that reaches past the right edge of the active area, only the part within it is composed. -/
theorem test_activeArea :
    let e : PlanEntry := ⟨0, 1900, 0, 480, 270, none, 256, 0, none, Colour.black, .single (.colour ⟨940, 512, 512⟩)⟩
    let s : State := { ready with plans := tset ready.plans 0 (some ⟨.showing, 1920, 1080, Colour.black, [e]⟩) }
    s.activePixel 0 1919 0 = some ⟨940, 512, 512⟩ ∧ s.activePixel 0 1920 0 = none ∧ s.activePixel 0 0 0 = some Colour.black := by
  decide +kernel

/-- R122: the two halves of a frame of 2475000 ticks. -/
theorem test_phaseError : phaseError 2475000 1237500 = 1237500 ∧ phaseError 2475000 1237501 = -1237499 := by decide +kernel

/-- 7.5.1: e = −4490 in ACQUIRE gives c = −1122; 7.5.3: e = −520 in LOCKED gives c = −16 and takes 2 from T. -/
theorem test_corrected : corrected .acquire (-4490) 0 = (-1122, 0) ∧ corrected .locked (-520) 12 = (-16, 10) := by decide +kernel

/-- 7.5.5: the blanking floor raises c to 400, and L is 237184. -/
theorem test_blankingFloor :
    (fixFrame { Rgu.reset with raster := ⟨640, 360, 656, 364, Colour.black⟩, trim := -2000, nextCorr := -200 }).corr = 400
    ∧ (fixFrame { Rgu.reset with raster := ⟨640, 360, 656, 364, Colour.black⟩, trim := -2000, nextCorr := -200 }).length = 237184 := by
  decide +kernel

/-- 7.5.3: the second bad capture of LOCKED leaves it for TRACK, with LOCK_CHANGE. -/
def locked : State := ready.setRgu { ready.rgu with genlock := .locked, reference := some 3, trim := 12, badCount := 1, capture := some (-520) }

theorem test_genlockUnlocked : (after .genlockUnlocked locked).rgu.genlock = .track ∧ (after .genlockUnlocked locked).rgu.trim = 10
    ∧ (after .genlockUnlocked locked).has .lockChange = true := by decide +kernel

/-- 7.5.4: the RASTER of 1280 × 720 in 1650 × 750 on a LOCKED part, applied: ACQUIRE, T 0, LOCK_CHANGE, and L 1237500 next. -/
def switched : State :=
  after .outputFrameStart (after (.outputFrameEnd [.genlock, .raster]) (after (.raster q5 1279 719 1649 749 0x04080200#32) locked))

theorem test_raster : switched.rgu.genlock = .acquire ∧ switched.rgu.length = 1237500 ∧ switched.has .lockChange = true := by
  decide +kernel

/-- 8.1.1: the fourth failed header in a row sends the link to HUNT, counted, with LINK_RESYNC; two good ones bring it back. -/
def bursted : State := after .headerError { ready with trx := { ready.trx with consecErrors := 3, headerErrors := 22 } }

theorem test_headerError : bursted.trx.link = .hunt ∧ bursted.trx.headerErrors = 23 ∧ bursted.trx.consecErrors = 0
    ∧ bursted.conditions = 3#12 := by decide +kernel
theorem test_hunt :
    (after .syncReached (after (.huntHeaderCheck (List.replicate 46 0) (headerCheck (List.replicate 46 0))) bursted)).trx.link = .sync := by
  decide +kernel

/-- 8.4.1: after a chain break, ENUM with next address 1 gives address 1 and goes on with 2. -/
theorem test_enum :
    (after (.enumCell 1) { after .chainBreak ready with trx := ready.trx }).address = some 1#8
    ∧ (after (.enumCell 1) { after .chainBreak ready with trx := ready.trx }).fwd.sent = .enumNext 2
    ∧ (after .chainBreak ready).has .chainBreak = true := by decide +kernel

/-- 8.6.1: the fourth output frame end ends a survey of 4. -/
theorem test_survey :
    (after (.outputFrameEnd []) { ready with survey := { Survey.reset with state := .running, framesLeft := 1 } }).survey.state = .done := by
  decide +kernel

/-- 4.6.1: a dissolve of D 4 from source 7 to source 9, interrupted by a CUT to source 12 that carries 30. -/
def cutIn : State := after (.take q5 0 1 0 0x0C000000#32 0 30)
  ((laid [plain 1 (.source 9)] ready).setTransition 0 1 (.running ⟨.source 7, .source 9, .dissolve, 4, 2, .take⟩))

theorem test_take : cutIn.transition 0 1 = .running ⟨.source 9, .source 12, .cut, 1, 0, .take⟩
    ∧ repliedWith 7 cutIn = some (.done, [3, 0, 9, 0, 0, 0, 1]) := by decide +kernel

/-- 4.6.3: a TAKE to the source a list stands at starts nothing, and unbinds the window. -/
theorem test_take_list :
    let s := after (.take q5 0 3 0 0x04000000#32 1 10)
      ((laid [plain 3 (.list 2)] ready).setList 2 ⟨[4], 9, .cut, 0, 0, 9, none⟩)
    s.transition 0 3 = .idle ∧ (s.output 0).active = [plain 3 (.source 4)] ∧ (s.output 0).pending = [plain 3 (.source 4)] := by
  decide +kernel

/-- 6.8.1: at FE (607) list 0 stands at position 1; source 9 is LOST, source 12 LIVE; the list moves to position 3 and the window
dissolves from 6 to 12. -/
def rotating : State :=
  (((laid [plain 2 (.list 0)] ready).setList 0 ⟨[3, 6, 9, 12], 3, .dissolve, 2, 1, 1, none⟩).setStore 0
    (store 9 .lost 0 SlotRecord.reset SlotRecord.reset SlotRecord.reset)).setStore 1
    (store 12 .live 0 SlotRecord.reset SlotRecord.reset SlotRecord.reset)

theorem test_listAdvance : ((after (.listAdvance 0) rotating).list 0).position = 3
    ∧ (after (.listAdvance 0) rotating).transition 0 2 = .running ⟨.source 6, .source 12, .dissolve, 2, 0, .list 0⟩ := by decide +kernel
theorem test_listPart : (after (.outputFrameEnd [.transitions, .lists]) rotating).transition 0 2 =
    (after (.outputFrameEnd [.lists, .transitions]) rotating).transition 0 2 := by decide +kernel

/-- 9.3.1: entry 4 fires at 18:00:00:00, sets output 1 SHOWING, and does not fire at 18:00:00:01. -/
def kicked : State := after (.timebase 0 18 0 0 0) (ready.setCue 4 (some ⟨none, some 18, some 0, some 0, none, .repeating, .mode .showing 2#4, false⟩))

theorem test_timebase : (kicked.output 1).mode = .showing ∧ kicked.has .cueFired = true ∧ (kicked.cue 4).map Cue.matching = some true := by
  decide +kernel
theorem test_timebase_once :
    ((after (.timebase 0 18 0 0 1) (kicked.setOutput 1 Output.reset)).output 1).mode = .dark := by decide +kernel

/-- R55: a FRAME-OPEN passes over the selected slot and takes the lowest EMPTY one. -/
theorem test_frameOpen : (((after (.frameOpen 3 18 1920 1080 2 5) onAir).store 2).slot 0).frame = some ⟨.filling, 18, 1920, 1080, 2, 0⟩ := by
  decide +kernel

/-- A frame of two cells: its first cell accepted and written, its close refused for its count (R57, R58, R60). -/
def receiving : State := onAir.setStore 2 { live3 with slots := #v[filling 18 0, full 1 17 true 0, SlotRecord.reset] }

theorem test_pic : (after (.pic 3 18 0 7 1919 2 [0x04080200, 0x3AC80200]) receiving).queue = [.pic 2 0 7 1919 [⟨64, 512, 512⟩, ⟨940, 512, 512⟩]] := by
  decide +kernel
theorem test_pic_sequence : (((after (.pic 3 18 1 7 0 1 [0]) receiving).store 2).slot 0).stateNumber = 4
    ∧ (after (.pic 3 18 1 7 0 1 [0]) receiving).has .frameDamaged = true := by decide +kernel
theorem test_frameClose : (((after (.frameClose 3 18 1) receiving).store 2).slot 0).stateNumber = 4 := by decide +kernel
theorem test_picWrite :
    (after .picWrite { ready with queue := [.pic 2 0 7 1919 [⟨0, 1, 2⟩, ⟨940, 512, 512⟩]] }).memory = [(position 2 0 7 1919, ⟨0, 1, 2⟩)] := by
  decide +kernel

/-- R53, R61: a completion at the counter's greatest value renumbers the other COMPLETE slot 1 and takes 2. -/
def closing : State :=
  { onAir.setStore 2 (store 3 .stale 4294967295 ⟨some ⟨.closing, 18, 1920, 1080, 2, 2⟩, false, 0⟩ (full 4294967295 17 true 0) SlotRecord.reset) with
    queue := [.close 2 0] }

theorem test_completion : ((after .completion closing).store 2).completions = 2
    ∧ (((after .completion closing).store 2).slot 0).number? = some 2 ∧ (((after .completion closing).store 2).slot 1).number? = some 1
    ∧ ((after .completion closing).store 2).state = .live := by decide +kernel

/-- R66, R68, R125: with the power-on limits, the twelfth silent output frame end makes a LIVE store STALE, and frees a part locked to it. -/
def silent : State :=
  { onAir.setStore 2 { live3 with silence := 11 } with rgu := { ready.rgu with genlock := .locked, reference := some 3 } }

theorem test_sourceStale : (after (.sourceStale 2) silent).conditions = BitVec.ofNat 12 (64 + 256 + 512)
    ∧ (after (.sourceStale 2) silent).rgu.genlock = .free := by decide +kernel
theorem test_silence_frameEnd : ((after (.outputFrameEnd []) silent).store 2).state = .stale
    ∧ ((after (.outputFrameEnd []) (after (.sourceStale 2) silent)).store 2).silence = 12 := by decide +kernel

/-- R92: the armed freeze of tag 17 is taken on the slot the output frame end selects, in any order of the blocks. -/
def armed17 : State := onAir.setFreeze 0 0 (.armed 17 2)

theorem test_freezeAt : (after (.outputFrameEnd [.freezes, .selection]) armed17).freeze 0 0 = .frozen 2 1 false
    ∧ ((after (.outputFrameEnd [.freezes, .selection]) armed17).store 2).slot 1 = full 1 17 true 1 := by decide +kernel
theorem test_thaw : after (.thaw q5 0 0) (after (.freezeNow q5 0 0 0) onAir) =
    replied q5 19 .done [1, 2, 1, 0, 0] onAir := by decide +kernel

/-- R94: a THAW leaves the transition record IDLE, also of an armed window and of one that is not frozen. -/
theorem test_thaw_transition :
    let s := after (.thaw q5 0 0) (armed17.setTransition 0 0 (dissolving 4 2))
    s.transition 0 0 = .idle ∧ s.freeze 0 0 = .none ∧ repliedWith 5 s = some (.done, [2, 0, 0, 0, 17])
      ∧ (after (.thaw q5 0 0) (onAir.setTransition 0 0 (dissolving 4 2))).transition 0 0 = .idle := by decide +kernel

/-- R14, R16, R17: a saved preset, recalled over an edited bank, is armed, and the swap shows it. -/
theorem test_recall :
    let s := after (.recall q5 1 0) (after (.winset q5 0 (rawPlain 2 9)) (after (.presave q5 0 0) (laid [plain 0 (.source 3)] ready)))
    (s.output 0).pending = [plain 0 (.source 3)] ∧ (s.output 0).armed = true ∧ s.has .editOverridden = true := by decide +kernel

/-- R24, R28: the plan of a SHOWING output names the selected slot of a LIVE store. -/
theorem test_plan :
    (tget (after .outputFrameStart (after (.outmode q5 1 1) (onAir.setRgu between.rgu))).plans 0).map (fun p => p.entries.map PlanEntry.drawing) =
      some [.single (.slot 2 1 1920 1080)] := by decide +kernel

/-- R174: RESTART keeps the address and the presets, and answers the last reset cause. -/
theorem test_restart : repliedWith 3 (after (.restart q5) onAir) = some (.done, [0, 0, 0])
    ∧ (after (.restart q5) onAir).lastReset = .restart ∧ (after (.restart q5) onAir).rgu.scan = .between := by decide +kernel

/-- Output 0 is SHOWING source 3, and a frame begins. -/
def scanned : State := after .outputFrameStart (after (.outmode q5 1 1) (onAir.setRgu between.rgu))

/-- Two fetches wait, raised at one tick, and a PIC write waits in the queue. -/
def contended : State :=
  { ready with
    rgu := { ready.rgu with tick := 99000 }, fmc := ⟨[⟨2, 99000⟩, ⟨0, 99000⟩], none⟩, queue := [.pic 2 1 0 0 [⟨940, 512, 512⟩]] }

/-- R45: a fetch is granted before the write that waits, so the pixel of its tick is the one from before the write. -/
theorem test_fetchFirst :
    let s := moveTick 99000 scanned
    let t := after .picWrite { s with queue := [.pic 2 1 0 0 [⟨940, 512, 512⟩]] }
    s.fmc.fetches = [⟨0, 99000⟩] ∧ s.outputPixel 0 = some Colour.black ∧ t.outputPixel 0 = some Colour.black
      ∧ (moveTick 99000 t).outputPixel 0 = some ⟨940, 512, 512⟩ := by decide +kernel

/-- R118: a RASTER taken after RGU's genlock step of an output frame end is applied at the following output frame end. -/
theorem test_raster_after_genlock :
    let s := after (.raster q5 1279 719 1649 749 0x04080200#32) (after .genlockUnlocked locked)
    (after (.outputFrameEnd []) s).rgu.raster = Raster.reset ∧ (after (.outputFrameEnd []) s).rgu.lastE = some (-520)
      ∧ (after (.outputFrameEnd []) (after .outputFrameStart (after (.outputFrameEnd []) s))).rgu.raster.activeWidth = 1280 := by
  decide +kernel

/-! ### Witnesses: the hypotheses of the statements can be met, clause by clause -/

/-- A running frame at its first tick, at its last tick, the power-on fill, and the time between frames, with no command waiting. -/
theorem witness_StepRunsTheFrontCommand :
    (ready.pending = [] ∧ ready.rgu.scan = .running ∧ ready.rgu.tick + 1 < ready.rgu.length)
    ∧ ((ready.setRgu { ready.rgu with tick := 2474999 }).rgu.length ≤ (ready.setRgu { ready.rgu with tick := 2474999 }).rgu.tick + 1)
    ∧ (State.reset.pending = [] ∧ State.reset.rgu.scan = .fill) ∧ (between.pending = [] ∧ between.rgu.scan = .between) := by decide

theorem witness_CellsNotForThisPart :
    (isCell .headerError = true ∧ State.reset.trx.link ≠ .sync)
    ∧ (requestOf (.ident ⟨6, 0⟩) = some (⟨6, 0⟩, 1) ∧ ready.trx.link = .sync ∧ (6#8).toNat ≠ 31 ∧ ready.address ≠ some 6#8)
    ∧ (requestOf (.thaw qAll 0 0) = some (qAll, 19) ∧ mayBroadcast (.thaw qAll 0 0) = false ∧ Broadcast qAll ready) := by decide

theorem witness_RefusalsChangeNothing : ∃ t r, requestOf (.status q5 11) = some (q5, 2) ∧ Hears q5 ready
    ∧ exec (.status q5 11) ready = .next t ∧ t.fwd = ⟨.reply r, false⟩ ∧ isRefusal r.code = true :=
  ⟨_, _, rfl, by decide, rfl, rfl, rfl⟩

theorem witness_RepliesNameTheirRequest : requestOf (.restart q5) = some (q5, 26) ∧ Hears q5 ready := by decide

theorem witness_IdentAnswers : Hears q5 ready ∧ Broadcast qAll ready := by decide

theorem witness_StatusReports : Hears q5 ready ∧ 10 < (11#8).toNat ∧ (10#8).toNat ≤ 10 ∧ (0#8).toNat = 0
    ∧ (8#8).toNat = (7 : Fin 8).val + 1 ∧ (9#8).toNat = 9 := by decide

/-- A genlocked part and a store with every field, for the clauses of a page. -/
theorem witness_StatusReports_page :
    (silent.rgu.reference = some 3 ∧ locked.rgu.lastE = none ∧ (onAir.store 2).binding = some 3)
    ∧ ((onAir.store 2).slot 1).frame = some ⟨.complete 1, 17, 1920, 1080, 2, 2⟩ ∧ ((onAir.store 2).slot 1).selected = true
    ∧ (∀ k, ((ready.store 0).slot k).selected = false) := by decide

theorem witness_ClearClearsTheNamedConditions : Hears q5 ready ∧ Broadcast qAll ready := by decide

theorem witness_UnknownRequestsAreAnsweredUnknown :
    ((0#8).toNat = 0 ∨ 27 ≤ (0#8).toNat) ∧ ((27#8).toNat = 0 ∨ 27 ≤ (27#8).toNat) ∧ Hears q5 ready ∧ Broadcast qAll ready := by decide

/-- Output 0 armed. -/
def armed0 : State := ready.setOutput 0 { Output.reset with armed := true }

/-- Output 0's pending bank holds window 2 between windows 4 and 6. -/
def three : State := ready.setOutput 0 { Output.reset with
  pending := [plain 4 (.source 1), plain 2 (.source 1), plain 6 (.source 1)] }

/-- Eight window records. -/
def eight : List WindowRecord := (List.finRange 8).map (fun w => plain w (.source 1))

theorem witness_WinsetPlacesTheRecord :
    (Hears q5 three ∧ (4 ≤ (4#8).toNat ∨ 8 ≤ (rawPlain 2 9).number.toNat) ∧ 8 ≤ (rawPlain 8 9).number.toNat)
    ∧ (Names 0#8 (0 : Fin 4) ∧ (rawPlain 2 9).number.toNat < 8 ∧ (armed0.output 0).armed = true)
    ∧ ((three.output 0).armed = false ∧ ¬ RecordInRange { rawPlain 2 9 with width := 0 } ∧ RecordInRange (rawPlain 2 9)
      ∧ RecordInRange { rawPlain 2 9 with width := 4096 })
    ∧ HoldsAt (three.output 0).pending [plain 4 (.source 1)] (plain 2 (.source 1)) [plain 6 (.source 1)] 2
    ∧ (Lacks (three.output 0).pending 5 ∧ (three.output 0).pending.length < 8)
    ∧ (Lacks ((eight.take 7) ++ [plain 6 (.source 2)]) 7 ∧ 8 ≤ ((eight.take 7) ++ [plain 6 (.source 2)]).length) := by
  repeat' apply And.intro
  all_goals decide +kernel

theorem witness_WindropRemovesTheRecord :
    Hears q5 three ∧ 4 ≤ (4#8).toNat ∧ 8 ≤ (8#8).toNat ∧ Names 0#8 (0 : Fin 4) ∧ Names 2#8 (2 : Fin 8) ∧ (armed0.output 0).armed = true
    ∧ (three.output 0).armed = false ∧ Lacks (three.output 0).pending 7
    ∧ HoldsAt (three.output 0).pending [plain 4 (.source 1)] (plain 2 (.source 1)) [plain 6 (.source 1)] 2 := by decide

theorem witness_WinmoveReordersTheList :
    Hears q5 three ∧ 16 ≤ (16#8).toNat ∧ (15#8).toNat < 16 ∧ (armed0.output 0).armed = true ∧ (three.output 0).armed = false
    ∧ Lacks (three.output 0).pending 7
    ∧ HoldsAt (three.output 0).pending [plain 4 (.source 1)] (plain 2 (.source 1)) [plain 6 (.source 1)] 2
    ∧ [plain 4 (.source 1)] ++ [plain 6 (.source 1)] = [plain 4 (.source 1), plain 6 (.source 1)] ++ [] := by decide

theorem witness_WinreadReportsTheRecord :
    Hears q5 three ∧ 2 ≤ (2#8).toNat ∧ ((1#8).toNat = 1 ∧ (three.output 0).pending = (three.output 0).pending)
    ∧ ((0#8).toNat = 0 ∧ Lacks (three.output 0).active 2)
    ∧ HoldsAt (three.output 0).pending [plain 4 (.source 1)] (plain 2 (.source 1)) [plain 6 (.source 1)] 2 := by decide

theorem witness_WindowBytesReadBack :
    RecordLegal ⟨7, .list 3, -2048, 4095, 1, 4096, some ⟨1919, 1199, 1920, 1200⟩, 256, some ⟨15, Colour.black⟩, some Colour.black⟩
    ∧ (padTo 40 (identResult ready)).length = 40 := by
  decide

/-- A cell of zeros, whose check is not 0, and an ENUM cell. -/
theorem witness_WindowBytesReadBack_cells :
    ((List.replicate 1008 (0#8)).length = 1008 ∧ headerCheck ((List.replicate 1008 (0#8)).take 46) ≠ halfAt (List.replicate 1008 0#8) 46)
    ∧ ((5#8 :: List.replicate 1007 (0#8)).length = 1008 ∧ byteAt (5#8 :: List.replicate 1007 0#8) 0 = 5#8) := by
  repeat' apply And.intro
  all_goals decide +kernel

theorem witness_DiscardRestoresThePendingBank : Hears q5 ready ∧ 4 ≤ (4#8).toNat ∧ Names 3#8 (3 : Fin 4)
    ∧ (armed0.output 0).armed = true ∧ (ready.output 3).armed = false := by decide

theorem witness_MasksArmAndSetModes : Hears q5 ready ∧ Broadcast qAll ready ∧ 16 ≤ (16#8).toNat ∧ (0#8).toNat = 0
    ∧ ((15#8).toNat < 16 ∧ (15#8).toNat ≠ 0) ∧ 2 ≤ (2#8).toNat ∧ (1#8).toNat = 1 := by decide

theorem witness_PresaveCopiesThePendingBank : Hears q5 ready ∧ 4 ≤ (4#8).toNat ∧ 8 ≤ (8#8).toNat ∧ Names 3#8 (3 : Fin 4)
    ∧ Names 7#8 (7 : Fin 8) := by decide

/-- Output 0 has preset 7, its pending bank edited. -/
def saved : State := ready.setOutput 0 { Output.reset with presets := Vector.replicate 8 (some []), dirty := true }

theorem witness_RecallCopiesThePreset : Hears q5 saved ∧ Broadcast qAll saved ∧ Names 7#8 (7 : Fin 8)
    ∧ (16 ≤ (16#8).toNat ∨ 8 ≤ (7#8).toNat) ∧ ((3#8).toNat < 16 ∧ ∃ o : Fin 4, (3#8).getLsbD o.val = true ∧ (saved.output o).preset 7 = none)
    ∧ ((1#8).toNat < 16 ∧ (1#8).toNat ≠ 0 ∧ ∀ o : Fin 4, (1#8).getLsbD o.val = true → (saved.output o).preset 7 ≠ none) := by decide

theorem witness_SilenceSetsTheLimits : Hears q5 ready ∧ Broadcast qAll ready
    ∧ (1 ≤ (255#8).toNat ∧ 2 ≤ (4095#16).toNat ∧ (4095#16).toNat ≤ 4095 ∧ (255#8).toNat < (4095#16).toNat)
    ∧ ¬ (1 ≤ (2#8).toNat ∧ 2 ≤ (2#16).toNat ∧ (2#16).toNat ≤ 4095 ∧ (2#8).toNat < (2#16).toNat) := by decide

/-- Store 2's slot 1 is pinned. -/
def pinned3 : State := (onAir.setStore 2 { live3 with slots := #v[SlotRecord.reset, full 1 17 true 1, SlotRecord.reset] }).setFreeze 0 0
  (.frozen 2 1 false)

theorem witness_SubscribeBindsTheStore : Hears q5 onAir ∧ 8 ≤ (8#8).toNat ∧ 16 ≤ (16#8).toNat ∧ Names 7#8 (7 : Fin 8)
    ∧ Names 15#8 (15 : Fin 16) ∧ (∃ j : Fin 8, j ≠ 7 ∧ (onAir.store j).binding = some 3)
    ∧ (∀ j : Fin 8, (onAir.store j).binding = some 3 → j = 2) ∧ (∀ j : Fin 8, (onAir.store j).binding = some 15 → j = 7)
    ∧ ((pinned3.store 2).binding ≠ none ∧ ¬ Unpinned (pinned3.store 2)) ∧ (onAir.store 7).binding = none
    ∧ ((onAir.store 2).binding = some 3 ∧ Unpinned (onAir.store 2)) := by decide

theorem witness_ReleaseUnbindsTheStore : Hears q5 onAir ∧ 8 ≤ (8#8).toNat ∧ Names 7#8 (7 : Fin 8) ∧ (onAir.store 7).binding = none
    ∧ ((pinned3.store 2).binding ≠ none ∧ ¬ Unpinned (pinned3.store 2)) ∧ ((onAir.store 2).binding = some 3 ∧ Unpinned (onAir.store 2)) := by
  decide

theorem witness_TakeStartsATransition :
    (Hears q5 onAir ∧ 4 ≤ (4#8).toNat ∧ 3 ≤ (3#8).toNat ∧ ShownAs 0 0x06000000#32 (.source 6) ∧ StyleAs 2 .fade)
    ∧ Lacks (onAir.output 0).active 7
    ∧ HoldsAt (onAir.output 0).active [] (plain 0 (.source 3)) [] 0
    ∧ (∃ i k shared, pinned3.freeze 0 0 = .frozen i k shared)
    ∧ ((∀ i k shared, onAir.freeze 0 0 ≠ .frozen i k shared) ∧ Displays onAir 0 0 (plain 0 (.source 3)) (.source 3)) :=
  ⟨by refine ⟨by decide, by decide, by decide, ⟨rfl, rfl⟩, rfl⟩, by decide, by decide, ⟨2, 1, false, by decide⟩,
    fun i k sh => by have h : onAir.freeze 0 0 = .none := by decide
                     rw [h]; exact FreezeRecord.noConfusion, rfl⟩

theorem witness_TakeStartsATransition_refused : ¬ ∃ b, ShownAs 1 0x06000000#32 b := by
  rintro ⟨b, h⟩; cases b <;> exact absurd h.1 (by decide)

theorem witness_FreezeNowPinsASlot :
    (Hears q5 onAir ∧ (0#8).toNat = 0 ∧ Names 0#8 (0 : Fin 4) ∧ Names 0#8 (0 : Fin 8)
      ∧ onAir.activeWindow 0 0 = some (plain 0 (.source 3)) ∧ BoundAt onAir 3 2)
    ∧ (onAir.freeze 0 0 = .none ∧ Unpinned (onAir.store 2) ∧ ((onAir.store 2).slot 1).selected = true
      ∧ (∀ j, ((onAir.store 2).slot j).selected = true → j = 1)
      ∧ ((onAir.store 2).slot 1).frame = some ⟨.complete 1, 17, 1920, 1080, 2, 2⟩)
    ∧ (0 < ((pinned3.store 2).slot 1).pins ∧ (∀ j, 0 < ((pinned3.store 2).slot j).pins → j = 1)
      ∧ ((pinned3.store 2).slot 1).frame = some ⟨.complete 1, 17, 1920, 1080, 2, 2⟩)
    ∧ (∀ k, (Store.reset.slot k).selected = false)
    ∧ pinned3.freeze 0 0 = .frozen 2 1 false := by decide

theorem witness_FreezeAtArmsAndFreezesCheck :
    Hears q5 onAir ∧ 2 ≤ (2#8).toNat ∧ (0#8).toNat = 0 ∧ 4 ≤ (4#8).toNat ∧ 8 ≤ (8#8).toNat ∧ onAir.activeWindow 0 7 = none
    ∧ (laid [plain 0 (.list 3)] ready).activeWindow 0 0 = some (plain 0 (.list 3))
    ∧ onAir.activeWindow 0 0 = some (plain 0 (.source 3)) ∧ Unbound ready 3 ∧ BoundAt onAir 3 2 ∧ onAir.freeze 0 0 = .none
    ∧ (pinned3.activeWindow 0 0 = some (plain 0 (.source 3)) ∧ BoundAt pinned3 3 2 ∧ pinned3.freeze 0 0 = .frozen 2 1 false
      ∧ ((pinned3.store 2).slot 1).frame = some ⟨.complete 1, 17, 1920, 1080, 2, 2⟩) := by decide

theorem witness_ThawReleasesTheWindow : Hears q5 onAir ∧ Broadcast qAll onAir ∧ 4 ≤ (4#8).toNat ∧ 8 ≤ (8#8).toNat
    ∧ pinned3.freeze 0 0 = .frozen 2 1 false ∧ armed17.freeze 0 0 = .armed 17 2 ∧ onAir.freeze 3 7 = .none := by decide

theorem witness_RotsetStagesTheList :
    Hears q5 ready ∧ Broadcast qAll ready ∧ (List.replicate 8 (15#8)).length = 8 ∧ 4 ≤ (4#8).toNat ∧ (0#8).toNat = 0 ∧ 9 ≤ (9#8).toNat
    ∧ (∃ b ∈ (List.replicate 8 (16#8)).take (1#8).toNat, 16 ≤ b.toNat) ∧ 3 ≤ (3#8).toNat
    ∧ Names 3#8 (3 : Fin 4) ∧ 1 ≤ (8#8).toNat ∧ (8#8).toNat ≤ 8
    ∧ (List.replicate 8 (15#8)).take (8#8).toNat = (List.replicate 8 (15 : Fin 16)).map (fun src => BitVec.ofNat 8 src.val)
    ∧ StyleAs 1 .dissolve := by
  refine ⟨by decide, by decide, by decide, by decide, by decide, by decide, by decide, by decide, by decide, by decide, by decide, by decide, rfl⟩

theorem witness_ListAdvanceMovesToTheNextLiveEntry :
    (rotating.rgu.scan = .running ∧ FrameEndMark.list 0 ∉ rotating.early ∧ (rotating.list 0).staged = none
      ∧ (rotating.list 0).entries ≠ [] ∧ (rotating.list 0).counter ≤ 1)
    ∧ ((rotating.list 0).entries[((rotating.list 0).position + 2) % (rotating.list 0).entries.length]? = some 12
      ∧ rotating.sourceLive 12 = true ∧ rotating.sourceLive 9 = false ∧ (rotating.list 0).entries[(rotating.list 0).position]? = some 6)
    ∧ ∀ src, ready.sourceLive src = false := by decide

theorem witness_TimebaseEvaluatesTheCues :
    (ready.trx.link = .sync ∧ ¬ ((7#8).toNat ≤ 6) ∧ ((6#8).toNat ≤ 6 ∧ (23#8).toNat ≤ 23 ∧ (59#8).toNat ≤ 59))
    ∧ (∀ c, (fun _ => false : Fin 16 → Bool) c = true ↔ ∃ x, ready.cue c = some x ∧ Matches x ⟨6, 23, 59, 59, 59⟩ ∧ x.matching = false)
    ∧ ∀ c, (fun c => decide (c = 4) : Fin 16 → Bool) c = true ↔
      ∃ x, (ready.setCue 4 (some ⟨none, none, none, none, none, .once, .recall 7 15, false⟩)).cue c = some x
        ∧ Matches x ⟨6, 23, 59, 59, 59⟩ ∧ x.matching = false := by
  refine ⟨by decide, fun c => ?_, fun c => ?_⟩
  · have h : ready.cue c = none := by revert c; decide
    simp [h]
  · by_cases hc : c = 4
    · subst hc
      simp only [decide_true, true_iff]
      exact ⟨⟨none, none, none, none, none, .once, .recall 7 15, false⟩, by decide, by decide, rfl⟩
    · have h : (ready.setCue 4 (some ⟨none, none, none, none, none, .once, .recall 7 15, false⟩)).cue c = none := by revert c; decide
      rw [h]; simp [hc]

theorem witness_CuesAreWrittenAndDropped :
    (Hears q5 ready ∧ Broadcast qAll ready ∧ 16 ≤ (16#8).toNat ∧ Names 15#8 (15 : Fin 16))
    ∧ (¬ CueInRange ⟨1, 7, 0, 0, 0, 0, 0, 0, 0, 0⟩ ∧ CueInRange ⟨31, 6, 23, 59, 59, 59, 1, 0, 7, 15⟩
      ∧ CueInRange ⟨0, 255, 255, 255, 255, 255, 0, 1, 1, 0⟩)
    ∧ ready.clock = none ∧ (kicked.clock = some ⟨0, 18, 0, 0, 0⟩) := by
  repeat' apply And.intro
  all_goals decide +kernel

theorem witness_RasterIsStaged : Hears q5 ready ∧ Broadcast qAll ready ∧ RasterLegal ⟨640, 360, 656, 364, Colour.black⟩
    ∧ RasterLegal ⟨1920, 1200, 4095, 2047, Colour.black⟩ ∧ ¬ RasterLegal ⟨639, 360, 656, 364, Colour.black⟩
    ∧ ¬ RasterLegal ⟨640, 360, 655, 364, Colour.black⟩ := by decide

theorem witness_GenlockChoosesTheReference : Hears q5 onAir ∧ Broadcast qAll onAir ∧ (255#8).toNat = 255
    ∧ (16 ≤ (16#8).toNat ∧ (16#8).toNat ≠ 255) ∧ Names 3#8 (3 : Fin 16)
    ∧ (∀ i, (ready.store i).binding = some 3 → (ready.store i).state ≠ .live) ∧ BoundAt onAir 3 2 ∧ (onAir.store 2).state = .live := by decide

/-- The raster and genlock unit about to move its state. -/
def genlocking (g : GenlockState) (good bad : Nat) (e : Int) : State :=
  ready.setRgu { ready.rgu with genlock := g, reference := some 3, goodCount := good, badCount := bad, capture := some e }

theorem witness_GenlockMovesByItsCounts :
    (ready.rgu.scan = .running ∧ FrameEndMark.genlock ∉ ready.early ∧ ready.rgu.staged = none)
    ∧ ((genlocking .acquire 3 0 (-2200)).rgu.capture = some (-2200) ∧ ((-2200 : Int)).natAbs ≤ 2200 ∧ 3 ≤ (genlocking .acquire 3 0 0).rgu.goodCount)
    ∧ ((genlocking .track 7 0 64).rgu.capture = some 64 ∧ ((64 : Int)).natAbs ≤ 64 ∧ 7 ≤ (genlocking .track 7 0 64).rgu.goodCount)
    ∧ ((genlocking .locked 0 1 513).rgu.capture = some 513 ∧ 512 < ((513 : Int)).natAbs ∧ 1 ≤ (genlocking .locked 0 1 513).rgu.badCount) := by
  decide

theorem witness_Surveys : Hears q5 ready ∧ Broadcast qAll ready ∧ (0#8).toNat = 0 ∧ (255#8).toNat ≠ 0 ∧ ready.survey.state ≠ .running
    ∧ ({ ready with survey := { Survey.reset with state := .running } } : State).survey.state = .running
    ∧ 16 ≤ (16#8).toNat ∧ Names 15#8 (15 : Fin 16) ∧ tget ready.survey.records 15 = SurveyRecord.cleared := by decide

/-- An unassigned part in SYNC. -/
def unassigned : State := { ready with address := none }

theorem witness_EnumAssignsTheAddress : unassigned.trx.link = .sync ∧ unassigned.address = none ∧ 1 ≤ (30#8).toNat ∧ (30#8).toNat ≤ 30
    ∧ ready.address ≠ none ∧ (0#8).toNat = 0 ∧ 31 ≤ (31#8).toNat := by decide

/-- A part in HUNT. -/
def hunt (goodRun : Nat) : State := { ready with trx := { ready.trx with link := .hunt, goodRun := goodRun } }

theorem witness_HeadersMoveTheLink :
    (ready.trx.link = .sync ∧ ready.trx.consecErrors < 3 ∧ 3 ≤ ({ ready.trx with consecErrors := 3 } : Trx).consecErrors)
    ∧ ((hunt 0).trx.link = .hunt ∧ (hunt 0).trx.brk = none ∧ (hunt 0).trx.goodRun = 0 ∧ 1 ≤ (hunt 1).trx.goodRun)
    ∧ (headerCheck (List.replicate 46 0#8) = headerCheck (List.replicate 46 0#8) ∧ headerCheck [] ≠ 0#16)
    ∧ (0 : Fin 1008).val = ((1007 : Fin 1008).val + 1) % 1008 := by
  repeat' apply And.intro
  all_goals decide +kernel

/-- A break being received. -/
def broken : State := after .breakStart ready

theorem witness_SignalAndBreaks :
    (ready.trx.link ≠ .down ∧ ready.trx.brk = none) ∧ (broken.trx.link ≠ .down ∧ broken.trx.brk = some ⟨true, false⟩)
    ∧ (after .chainBreak broken).trx.brk = some ⟨true, true⟩
    ∧ State.reset.trx.link = .down := by decide

theorem witness_FrameOpenIsSeen :
    (ready.trx.link = .sync ∧ 16 ≤ (16#8).toNat ∧ Names 15#8 (15 : Fin 16) ∧ Unbound ready 15)
    ∧ (Names 3#8 (3 : Fin 16) ∧ BoundAt onAir 3 2 ∧ ¬ OpenInRange 1921 1200 16383) := by decide

/-- Store 2 bound to source 3, with three slots and its dropping mark set. -/
def withSlots (a b c : SlotRecord) : State := ready.setStore 2 { store 3 .live 5 a b c with dropping := true }

/-- A slot that is CLOSING. -/
def closingSlot : SlotRecord := ⟨some ⟨.closing, 18, 1920, 1080, 2, 2⟩, false, 0⟩

theorem witness_FrameOpenChoosesASlot :
    (ready.trx.link = .sync ∧ Names 3#8 (3 : Fin 16) ∧ BoundAt onAir 3 2 ∧ OpenInRange 16 1200 16383 ∧ OpenInRange 1920 16 1)
    ∧ (StoreLegal (onAir.store 2) ∧ (∀ k, ∀ f ∈ ((onAir.store 2).slot k).frame, f.phase ≠ .filling)
      ∧ Vacant ((onAir.store 2).slot 0) ∧ ∀ j : Fin 3, j < 0 → ¬ Vacant ((onAir.store 2).slot j))
    ∧ (FillingAt (receiving.store 2) 0 ⟨.filling, 18, 1920, 1080, 2, 0⟩ ∧ StoreLegal (receiving.store 2))
    ∧ (StoreLegal ((withSlots (full 5 1 true 0) (full 4 2 false 0) closingSlot).store 2)
      ∧ ∀ j, ¬ Vacant (((withSlots (full 5 1 true 0) (full 4 2 false 0) closingSlot).store 2).slot j))
    ∧ (StoreLegal ((withSlots (full 4 1 true 0) (full 5 2 false 0) closingSlot).store 2)
      ∧ Candidate (((withSlots (full 4 1 true 0) (full 5 2 false 0) closingSlot).store 2).slot 1))
    ∧ (StoreLegal ((withSlots (full 4 1 true 0) closingSlot closingSlot).store 2)
      ∧ ∀ j, ¬ Candidate (((withSlots (full 4 1 true 0) closingSlot closingSlot).store 2).slot j)) := by
  repeat' apply And.intro
  all_goals decide +kernel

/-- A store whose slot 0 is selected and newest, whose slot 1 is older, and whose slot 2 is CLOSING; and one where slot 1 is newest. -/
def older : Store := (withSlots (full 5 1 true 0) (full 4 2 false 0) closingSlot).store 2
def newer : Store := (withSlots (full 4 1 true 0) (full 5 2 false 0) closingSlot).store 2

theorem older_only : ∀ j, Candidate (older.slot j) → older.slot j = full 4 2 false 0 := by decide
theorem newer_only : ∀ j, Candidate (newer.slot j) → newer.slot j = full 5 2 false 0 := by decide
theorem newer_all : ∀ j, newer.slot j = full 4 1 true 0 ∨ newer.slot j = full 5 2 false 0 ∨ newer.slot j = closingSlot := by decide

theorem witness_FrameOpenChoosesASlot_older :
    Superseded older 1 4 ∧ ∀ j m', Superseded older j m' → 4 ≤ m' := by
  refine ⟨⟨by decide, by decide, 0, 5, by decide, by decide⟩, ?_⟩
  rintro j m ⟨h1, ⟨f, h2, h3⟩, _⟩
  rw [older_only j h1] at h2
  cases h2; cases h3; decide

theorem witness_FrameOpenChoosesASlot_newer : ∀ j m, ¬ Superseded newer j m := by
  rintro j m ⟨h1, ⟨f, h2, h3⟩, l, n, ⟨g, h4, h5⟩, h6⟩
  rw [newer_only j h1] at h2
  cases h2; cases h3
  rcases newer_all l with h | h | h <;> rw [h] at h4 <;> cases h4 <;> cases h5 <;> omega

theorem witness_PicIsTaken :
    (ready.trx.link = .sync ∧ (List.replicate 240 (0#32)).length = 240 ∧ 16 ≤ (16#8).toNat ∧ Unbound ready 15)
    ∧ (BoundAt receiving 3 2 ∧ (receiving.store 2).dropping = false ∧ ((withSlots closingSlot closingSlot closingSlot).store 2).dropping = true)
    ∧ (¬ PicInRange 1200 0 1 ∧ PicInRange 1199 1919 240 ∧ NoneFilling (receiving.store 2) 19)
    ∧ FillingAt (receiving.store 2) 0 ⟨.filling, 18, 1920, 1080, 2, 0⟩
    ∧ ((1#16).toNat ≠ 0 ∨ 2 ≤ (1#16).toNat) ∧ ((0#16).toNat = 0 ∧ (0#16).toNat < 2)
    ∧ 48 ≤ (List.replicate 48 (QueueEntry.close 0 0)).length ∧ receiving.queue.length < 48 := by
  repeat' apply And.intro
  all_goals decide +kernel

/-- A frame whose two cells have been accepted. -/
def received : State := onAir.setStore 2 { live3 with slots := #v[filling 18 2, full 1 17 true 0, SlotRecord.reset] }

theorem witness_FrameCloseIsTaken :
    (ready.trx.link = .sync ∧ 16 ≤ (16#8).toNat ∧ Unbound ready 15)
    ∧ (BoundAt received 3 2 ∧ (received.store 2).dropping = false ∧ ((withSlots closingSlot closingSlot closingSlot).store 2).dropping = true)
    ∧ (NoneFilling (received.store 2) 19 ∧ FillingAt (received.store 2) 0 ⟨.filling, 18, 1920, 1080, 2, 2⟩)
    ∧ ((1#16).toNat ≠ 2) ∧ (2#16).toNat = 2
    ∧ 48 ≤ (List.replicate 48 (QueueEntry.close 0 0)).length ∧ received.queue.length < 48 := by decide

theorem witness_PicWriteWritesItsRun : (ready.rgu.scan ≠ .fill ∧ ready.fmc.fetches = [] ∧ MemoryLegal ready
      ∧ ({ ready with queue := [.pic 2 0 1199 1919 [Colour.black]] } : State).queue = .pic 2 0 1199 1919 [Colour.black] :: [])
    ∧ (1199 < 1200 ∧ 1919 < 1920) ∧ State.reset.rgu.scan = .fill ∧ (contended.rgu.scan ≠ .fill ∧ contended.fmc.fetches = [⟨2, 99000⟩, ⟨0, 99000⟩]
      ∧ contended.arbitrate = some (.fetch ⟨0, 99000⟩) ∧ ∀ f ∈ contended.fmc.fetches, f.output ≠ 1) := by decide

/-- Output 0 scans the picture of source 3 out, and raises a fetch at its first active pixel. -/
theorem witness_PicWriteWritesItsRun_raised : ⟨0, 99000⟩ ∈ (moveTick 99000 scanned).raisedFetches
    ∧ (moveTick 99000 scanned).scanPosition = some (0, 0) := by decide +kernel

theorem witness_CompletionCompletesTheSlot :
    (closing.rgu.scan ≠ .fill ∧ closing.fmc.fetches = [] ∧ closing.queue = .close 2 0 :: [] ∧ ((closing.store 2).slot 0).frame = some ⟨.closing, 18, 1920, 1080, 2, 2⟩
      ∧ (closing.store 2).state ≠ .unbound ∧ (closing.store 2).completions = 4294967295 ∧ StoreLegal (closing.store 2))
    ∧ ((withSlots closingSlot (full 5 1 true 0) SlotRecord.reset).store 2).completions < 4294967295 := by decide +kernel

/-- Store 2's silence counter one below a limit. -/
def quiet (st : SourceState) (n : Nat) : State := onAir.setStore 2 { live3 with state := st, silence := n }

theorem witness_FrameEndStepsOfTheirOwn :
    (ready.rgu.scan = .running ∧ FrameEndMark.survey ∉ ready.early
      ∧ ({ Survey.reset with state := .running, framesLeft := 1 } : Survey).framesLeft ≤ 1)
    ∧ (FrameEndMark.transition 3 7 ∉ ready.early ∧ (ready.setTransition 3 7 (dissolving 255 254)).transition 3 7 = dissolving 255 254)
    ∧ ((quiet .live 11).store 2).binding = some 3 ∧ GoesStale (quiet .live 11) 2 ∧ GoesLost (quiet .live 119) 2 ∧ GoesLost (quiet .stale 119) 2 := by
  decide

theorem witness_FrameEndSwapsAndCounts : ready.rgu.scan = .running ∧ ready.rgu.counter < 4294967295 ∧ ready.survey.state ≠ .running
    ∧ FrameEndMark.survey ∉ ready.early ∧ (armed0.output 0).armed = true
    ∧ 1 ≤ ({ Survey.reset with state := .running, framesLeft := 255 } : Survey).framesLeft
    ∧ FrameEndMark.survey ∈ (ready.mark .survey).early
    ∧ ({ ready.rgu with counter := 4294967295 } : Rgu).counter = 4294967295 := by decide

theorem witness_FrameEndCountsSilenceAndSelects :
    (quiet .live 11).rgu.scan = .running ∧ (∀ i, StoreLegal ((quiet .live 11).store i)) ∧ GoesStale (quiet .live 11) 2
    ∧ GoesLost (quiet .live 119) 2 ∧ (¬ GoesStale (quiet .live 10) 2 ∧ ¬ GoesLost (quiet .live 10) 2)
    ∧ (ready.store 0).binding = none ∧ FrameEndMark.silence 2 ∈ (onAir.mark (.silence 2)).early
    ∧ (silent.rgu.genlock ≠ .free ∧ silent.rgu.genlock = .locked ∧ ReferenceGoes silent) := by
  repeat' apply And.intro
  all_goals decide +kernel

/-- List 0 with a staged ROTSET, as 6.8.1 has it. -/
def stagedList : State := rotating.setList 0 ⟨[7], 40, .cut, 0, 0, 40, some ⟨[3, 6, 9, 12], 3, .dissolve, 2⟩⟩

/-- The list was empty when that ROTSET was staged. -/
def emptyList : State := stagedList.setList 0 { RotationList.reset with staged := some ⟨[3, 6, 9, 12], 3, .dissolve, 2⟩ }

theorem witness_FrameEndTakesTheLists_empty :
    (emptyList.rgu.scan = .running ∧ FrameEndMark.list 0 ∉ emptyList.early ∧ (emptyList.list 0).staged = some ⟨[3, 6, 9, 12], 3, .dissolve, 2⟩)
    ∧ ((emptyList.list 0).entries = [] ∧ Holds emptyList 0 2 (.list 0) ∧ emptyList.formerOf 0 2 = none ∧ emptyList.freeze 0 2 = .none) := by
  decide

/-- R106: a window bound to an empty list, with no fallback colour, cuts from the background to the first entry. -/
theorem test_rotset_empty : (after (.outputFrameEnd []) emptyList).transition 0 2 =
    .running ⟨.colour Colour.black, .source 3, .cut, 1, 0, .list 0⟩ := by decide +kernel

theorem witness_FrameEndTakesTheLists :
    (stagedList.rgu.scan = .running ∧ FrameEndMark.list 0 ∉ stagedList.early ∧ FrameEndMark.list 0 ∈ (stagedList.mark (.list 0)).early)
    ∧ ((stagedList.list 0).staged = some ⟨[3, 6, 9, 12], 3, .dissolve, 2⟩ ∧ (stagedList.list 0).entries[(stagedList.list 0).position]? = some 7
      ∧ Holds stagedList 0 2 (.list 0) ∧ stagedList.formerOf 0 2 = none ∧ stagedList.freeze 0 2 = .none
      ∧ Holds (stagedList.setOutput 0 { stagedList.output 0 with armed := true }) 0 2 (.list 0))
    ∧ ((rotating.list 0).staged = none ∧ (rotating.list 0).entries ≠ [] ∧ (rotating.list 0).counter ≤ 1 ∧ (rotating.list 1).entries = []
      ∧ (rotating.list 0).entries[((rotating.list 0).position + 2) % (rotating.list 0).entries.length]? = some 12
      ∧ rotating.sourceLive 12 = true ∧ rotating.sourceLive 9 = false ∧ (rotating.list 0).entries[(rotating.list 0).position]? = some 6)
    ∧ 1 < ({ stagedList.list 0 with staged := none } : RotationList).counter := by decide

theorem witness_FrameEndTakesRasterAndGenlock :
    (¬ ReferenceGoes ready ∧ ¬ ReferenceGoes (genlocking .acquire 2 0 2200) ∧ (genlocking .track 6 0 65).rgu.scan = .running)
    ∧ ((ready.setRgu { ready.rgu with staged := some ⟨640, 360, 656, 364, Colour.black⟩ }).rgu.staged = some ⟨640, 360, 656, 364, Colour.black⟩)
    ∧ FrameEndMark.genlock ∈ (ready.mark .genlock).early
    ∧ (FrameEndMark.genlock ∉ ready.early ∧ ready.rgu.genlock = .free ∧ (genlocking .locked 0 0 512).rgu.genlock ≠ .free
      ∧ (ready.setRgu { ready.rgu with genlock := .track }).rgu.capture = none)
    ∧ ((2201 : Int).natAbs > 2200 ∧ (65 : Int).natAbs > 64 ∧ (512 : Int).natAbs ≤ 512 ∧ 512 < (513 : Int).natAbs) := by decide

/-- Window 0 of output 0 dissolves to source 3, and its output is armed with the same list. -/
def committed : State :=
  (onAir.setTransition 0 0 (.running ⟨.source 4, .source 3, .dissolve, 4, 3, .take⟩)).setOutput 0 { onAir.output 0 with armed := true }

/-- Window 0 of output 0 is to be bound to list 0 at the swap to come, and runs a transition to what it holds now. -/
def rebound : State := committed.setOutput 0 { committed.output 0 with pending := [plain 0 (.list 0)] }

/-- The freeze of slot 1 of store 2, on window 0 of output 0, with its output armed; and with another window armed for tag 17. -/
def pinnedArmed (l : List WindowRecord) : State := pinned3.setOutput 0 { pinned3.output 0 with pending := l, armed := true }
def joining : State := (laid [plain 0 (.source 3), plain 1 (.source 3)] pinned3).setFreeze 0 1 (.armed 17 2)

/-- Two windows of source 3 are armed for tag 17. -/
def pair : State := ((laid [plain 0 (.source 3), plain 1 (.source 3)] onAir).setFreeze 0 0 (.armed 17 2)).setFreeze 0 1 (.armed 17 2)

/-- R92: taken together, both are FROZEN on the selected slot, neither armed-shared, and its pin count is 2. -/
theorem test_freezeAt_pair :
    (after (.outputFrameEnd []) pair).freeze 0 0 = .frozen 2 1 false ∧ (after (.outputFrameEnd []) pair).freeze 0 1 = .frozen 2 1 false
    ∧ ((after (.outputFrameEnd []) pair).store 2).slot 1 = full 1 17 true 2 := by decide +kernel

theorem witness_FrameEndTakesTransitionsAndFreezes :
    (onAir.rgu.scan = .running ∧ ∀ i, StoreLegal (onAir.store i))
    ∧ (onAir.freeze 0 0 = .none ∧ FrameEndMark.transition 0 0 ∉ onAir.early ∧ NoStart onAir 0 0 ∧ (onAir.output 0).armed = false
      ∧ onAir.transition 0 0 = .idle)
    ∧ (committed.freeze 0 0 = .none ∧ FrameEndMark.transition 0 0 ∉ committed.early ∧ NoStart committed 0 0
      ∧ (committed.output 0).armed = true ∧ Holds committed 0 0 (.source 3) ∧ Lacks (committed.output 0).pending 7)
    ∧ (FrameEndMark.transition 0 0 ∈ (onAir.mark (.transition 0 0)).early ∧ NoStart (onAir.mark (.transition 0 0)) 0 0)
    ∧ ((rebound.output 0).armed = true ∧ pendingContent rebound 0 0 ≠ activeContent rebound 0 0
      ∧ activeContent rebound 0 0 = some (.source 3)) := by
  repeat' apply And.intro
  all_goals decide +kernel

/-- A transition of the list its window is bound to, across a swap that keeps the window bound. -/
theorem witness_FrameEndTakesTransitionsAndFreezes_list :
    Holds (stagedList.setOutput 0 { stagedList.output 0 with armed := true }) 0 2
      (Transition.owner ⟨.source 7, .source 3, .dissolve, 2, 0, .list 0⟩)
    ∧ NoStart (stagedList.setList 0 ⟨[3, 6], 3, .dissolve, 2, 0, 2, none⟩) 0 2 := by decide +kernel

theorem witness_FrameEndTakesTransitionsAndFreezes_freezes :
    ((pinnedArmed [plain 0 (.source 4)]).freeze 0 0 = .frozen 2 1 false ∧ storeNamed ((pinnedArmed [plain 0 (.source 4)]).freeze 0 0) = some 2
      ∧ (∀ src, ((pinnedArmed [plain 0 (.source 4)]).store 2).binding = some src →
          pendingContent (pinnedArmed [plain 0 (.source 4)]) 0 0 ≠ some (.source src))
      ∧ ∀ o w, (o, w) ≠ ((0 : Fin 4), (0 : Fin 8)) → storeNamed ((pinnedArmed [plain 0 (.source 4)]).freeze o w) ≠ some 2)
    ∧ (Holds (pinnedArmed [plain 0 (.source 3)]) 0 0 (.source 3) ∧ (pinnedArmed [plain 0 (.source 3)]).freeze 0 0 = .frozen 2 1 false
      ∧ ((pinnedArmed [plain 0 (.source 3)]).store 2).binding = some 3)
    ∧ (armed17.freeze 0 0 = .armed 17 2 ∧ (armed17.store 2).binding = some 3 ∧ Holds armed17 0 0 (.source 3)
      ∧ Unpinned (armed17.store 2) ∧ ((armed17.store 2).slot 1).frame = some ⟨.complete 1, 17, 1920, 1080, 2, 2⟩
      ∧ ∀ o w, storeNamed (armed17.freeze o w) = some 2 → (armed17.freeze o w).isFrozen = false)
    ∧ (pair.freeze 0 0 = .armed 17 2 ∧ pair.freeze 0 1 = .armed 17 2 ∧ Holds pair 0 0 (.source 3) ∧ Holds pair 0 1 (.source 3)
      ∧ Unpinned (pair.store 2) ∧ (∀ o w, storeNamed (pair.freeze o w) = some 2 → (pair.freeze o w).isFrozen = false)
      ∧ takenAt pair 2 3 17 = 2)
    ∧ (joining.freeze 0 1 = .armed 17 2 ∧ Holds joining 0 1 (.source 3) ∧ 0 < ((joining.store 2).slot 1).pins
      ∧ (∀ l, 0 < ((joining.store 2).slot l).pins → l = 1)
      ∧ ∀ o w, storeNamed (joining.freeze o w) = some 2 → (joining.freeze o w).isFrozen = true → KeepsFreeze joining o w 3) := by
  repeat' apply And.intro
  all_goals decide +kernel

theorem witness_FrameEndTakesTransitionsAndFreezes_newest : NewestComplete (armed17.store 2) 1 := by
  refine ⟨1, by decide, ?_⟩
  rintro j m ⟨f, h1, h2⟩
  have : j = 0 ∨ j = 1 ∨ j = 2 := by omega
  rcases this with rfl | rfl | rfl <;> cases h1; cases h2; decide

theorem witness_FrameStartFixesTheFrame :
    RasterLegal between.rgu.raster ∧ between.rgu.scan = .between ∧ State.reset.rgu.scan = .fill
    ∧ ((2475000 : Nat) : Int) = between.rgu.raster.totalWidth * between.rgu.raster.totalHeight + between.rgu.trim + 0
    ∧ (1024 : Int) ≤ ((between.rgu.raster.totalHeight : Int) - between.rgu.raster.activeHeight) * between.rgu.raster.totalWidth := by decide

/-- Output 0 is SHOWING, after an output frame end and in the power-on fill; a window that is frozen, one in a transition, one of a list. -/
theorem witness_FrameStartLatchesThePlans :
    (between.rgu.scan = .between ∧ (between.output 0).mode = .dark ∧ State.reset.rgu.scan = .fill)
    ∧ (((after (.outmode q5 1 1) onAir).output 0).mode = .showing
      ∧ ((after (.outmode q5 1 1) onAir).output 0).active[0]? = some (plain 0 (.source 3)))
    ∧ (pinned3.freeze 0 (plain 0 (.source 3)).number = .frozen 2 1 false
      ∧ ((pinned3.store 2).slot 1).frame = some ⟨.complete 1, 17, 1920, 1080, 2, 2⟩)
    ∧ (committed.freeze 0 0 = .none ∧ committed.transition 0 0 = .running ⟨.source 4, .source 3, .dissolve, 4, 3, .take⟩)
    ∧ (rotating.list 0).entries[(rotating.list 0).position]? = some 6 := by
  repeat' apply And.intro
  all_goals decide +kernel

/-- A plan entry of window 0, full screen, of one colour. -/
def entry0 : PlanEntry := ⟨0, 0, 0, 1920, 1080, none, 256, 0, none, Colour.black, .single (.colour ⟨940, 512, 512⟩)⟩

/-- A window of source 3 with a crop and a border, half hidden off the left edge, that dissolves; and one of a fade above it. -/
def entry1 : PlanEntry := ⟨1, -10, 0, 21, 30, some ⟨1919, 1079, 10, 10⟩, 192, 10, some ⟨500, 512, 512⟩, Colour.black,
  .mixed (.slot 2 1 1920 1080) (.colour Colour.black) .dissolve 25 10⟩

/-- A SHOWING plan of two entries over a background. -/
def plan01 : FramePlan := ⟨.showing, 1920, 1080, ⟨64, 512, 512⟩, [entry0, entry1]⟩

/-- Output 0 has that plan, and its pixel of the present tick has been fetched. -/
def drawn : State := { ready with plans := tset ready.plans 0 (some plan01), samples := tset ready.samples 0 (some Colour.black) }

theorem witness_PixelsAreComposed :
    (tget ready.plans 0 = none ∧ tget drawn.plans 0 = some plan01 ∧ plan01.mode = .showing ∧ plan01.entries = [entry0] ++ entry1 :: [])
    ∧ (Covers plan01 entry0 1919 1079 ∧ ¬ Covers plan01 entry0 1920 0 ∧ entry0.opacity = 256
      ∧ Covers plan01 entry1 0 29 ∧ ¬ Covers plan01 entry1 11 0)
    ∧ (InnerAt entry1 0 19 0 9 1 10 ∧ CropsTo entry1.crop 1920 1080 1919 1079 1 1 ∧ CropsTo entry0.crop 1920 1080 0 0 1920 1080)
    ∧ effectiveCrop (some ⟨1919, 1199, 1920, 1200⟩) 1920 1200 = some ⟨1919, 1199, 1, 1⟩
    ∧ (RasterLegal Raster.reset ∧ Raster.reset.activeHeight * Raster.reset.totalWidth ≤ 2475000
      ∧ sentAt Raster.reset 2475000 1919 1079 = 2474719)
    ∧ (tget drawn.samples 0 = some Colour.black ∧ tget ready.samples 0 = none ∧ between.rgu.scan = .between
      ∧ (ready.setRgu { ready.rgu with tick := 99000 }).rgu.tick = sentAt ready.rgu.raster ready.rgu.length 0 0) := by
  repeat' apply And.intro
  all_goals decide +kernel

/-- A border pixel has no place in the inner rectangle. -/
theorem witness_PixelsAreComposed_border : ∀ i j w h, ¬ InnerAt entry1 0 5 i j w h := by
  rintro i j w h ⟨_, _, _, _, _, h6⟩
  simp only [entry1] at h6
  omega

theorem witness_RestartResetsThePart : Hears q5 onAir ∧ Broadcast qAll onAir := by decide

theorem witness_PowerOnIsTheReset : State.reset.pending = [] ∧ State.reset.freeCount = 0 := by decide

theorem witness_StateHasItsWriters : ∃ t, exec (.ident q5) ready = .next t ∧ Instr.ident q5 ≠ .powerOn :=
  ⟨_, rfl, Instr.noConfusion⟩

/-- The state right after power-on is legal, and so is the one a source is shown from; each takes a step. -/
theorem witness_StepsKeep : (∃ t, step State.reset = .next t) ∧ (∃ t, step onAir = .next t) :=
  ⟨⟨_, rfl⟩, ⟨_, rfl⟩⟩
theorem witness_StepsKeep_ranges : TrunkLegal onAir ∧ CountersLegal onAir ∧ CuesLegal onAir := by decide +kernel
theorem witness_StepsKeep_tables : LayoutLegal onAir ∧ ListsLegal onAir ∧ MemoryLegal onAir := by decide +kernel
theorem witness_StepsKeep_stores : StoresLegal onAir := by decide +kernel
theorem witness_StepsKeep_freezes : StoresLegal pinned3 ∧ ListsLegal pinned3 ∧ TransitionsLegal pinned3 ∧ FreezesLegal pinned3 :=
  ⟨by decide +kernel, by decide +kernel, by decide +kernel, by decide +kernel⟩
theorem witness_StepsKeep_transitions :
    StoresLegal committed ∧ ListsLegal committed ∧ TransitionsLegal committed ∧ FreezesLegal committed :=
  ⟨by decide +kernel, by decide +kernel, by decide +kernel, by decide +kernel⟩
/-- Source 3, the genlock reference, is scanned out, and a fetch waits for the first active pixel. -/
def fetching : State := moveTick 99000 (scanned.setRgu { scanned.rgu with genlock := .locked, reference := some 3 })

theorem witness_StepsKeep_genlock : StoresLegal fetching ∧ RasterStateLegal fetching ∧ GenlockLegal fetching ∧ FetchesLegal fetching
    ∧ fetching.fmc.fetches ≠ [] := by
  repeat' apply And.intro
  all_goals decide +kernel

end Sys2Proof.Tests
end

section
/-! PROOFS. What each operation of the part can change: the state is cut into pieces, and every operation has one lemma that lists
the pieces it may touch. Writers of a piece (R166, R16, R139, R43, R26, R149, R69) are read off the lemma about `exec`. -/

namespace Sys2Proof.Proofs

open Sys2Proof.Machine Sys2Proof.Claims Sys2Proof.Safety

/-- The pieces of state that the statements follow. -/
inductive Piece where
  | trunk | address | limits | queue | memory | frame | counter | banks | presets | flags | lists | clock | cues | plans
  | survey | surveyMark | conditions | otherConditions | rest
deriving DecidableEq

/-- A piece of state is as it was; of the conditions, that none is cleared (R166). `otherConditions` are those that no block sets at
an output frame end. -/
def Kept : Piece → State → State → Prop
  | .trunk, s, t => t.trx = s.trx ∧ t.fwd = s.fwd
  | .address, s, t => t.address = s.address
  | .limits, s, t => t.limits = s.limits
  | .queue, s, t => t.queue = s.queue
  | .memory, s, t => t.memory = s.memory
  | .frame, s, t => t.rgu.scan = s.rgu.scan ∧ t.rgu.length = s.rgu.length ∧ t.rgu.corr = s.rgu.corr
  | .counter, s, t => t.rgu.counter = s.rgu.counter
  | .banks, s, t => ∀ o, (t.output o).active = (s.output o).active ∧ (t.output o).pending = (s.output o).pending
  | .presets, s, t => ∀ o, (t.output o).presets = (s.output o).presets
  | .flags, s, t => ∀ o, (t.output o).armed = (s.output o).armed ∧ (t.output o).dirty = (s.output o).dirty
      ∧ (t.output o).mode = (s.output o).mode
  | .lists, s, t => t.lists = s.lists
  | .clock, s, t => t.clock = s.clock
  | .cues, s, t => t.cues = s.cues
  | .plans, s, t => t.plans = s.plans
  | .survey, s, t => t.survey = s.survey
  | .surveyMark, s, t => FrameEndMark.survey ∈ t.early ↔ FrameEndMark.survey ∈ s.early
  | .conditions, s, t => ∀ n : Nat, s.conditions.getLsbD n = true → t.conditions.getLsbD n = true
  | .otherConditions, s, t => ∀ n : Nat, n < 6 ∨ 9 < n → t.conditions.getLsbD n = s.conditions.getLsbD n
  | .rest, s, t => t.lastReset = s.lastReset ∧ t.freeCount = s.freeCount ∧ t.pending = s.pending

theorem Kept.refl (p : Piece) (s : State) : Kept p s s := by cases p <;> simp [Kept]

theorem Kept.trans {p : Piece} {s t u : State} (h : Kept p s t) (k : Kept p t u) : Kept p s u := by
  cases p <;> simp_all [Kept]

/-- From `s` to `t` no piece but those of `l` has changed. -/
def Touches (l : List Piece) (s t : State) : Prop := ∀ p, p ∉ l → Kept p s t

variable {l : List Piece} {s t u : State}

theorem Touches.refl (l : List Piece) (s : State) : Touches l s s := fun p _ => Kept.refl p s

theorem Touches.trans (h : Touches l s t) (k : Touches l t u) : Touches l s u := fun p hp => (h p hp).trans (k p hp)

/-- The same, the last step first. -/
theorem Touches.after (k : Touches l t u) (h : Touches l s t) : Touches l s u := h.trans k

theorem Touches.mono {l' : List Piece} (h : Touches l s t) (hl : l ⊆ l') : Touches l' s t := fun p hp => h p fun hm => hp (hl hm)

/-- What touches nothing is within every bound. -/
theorem Touches.any (h : Touches [] s t) : Touches l s t := h.mono (List.nil_subset l)

theorem Touches.ite {c : Prop} [Decidable c] (h : Touches l s t) (k : Touches l s u) : Touches l s (if c then t else u) := by
  split
  · exact h
  · exact k

theorem Touches.foldl {α : Type} {f : State → α → State} (h : ∀ s x, Touches l s (f s x)) (xs : List α) (s : State) :
    Touches l s (xs.foldl f s) := by
  induction xs generalizing s with
  | nil => exact .refl l s
  | cons x xs ih => exact (h s x).trans (ih _)

/-! ### The updates of one entry -/

theorem setStore_touches (i : Fin 8) (x : Store) (s : State) : Touches [] s (s.setStore i x) :=
  fun p _ => by cases p <;> simp [Kept]

theorem setTransition_touches (o : Fin 4) (w : Fin 8) (x : TransitionRecord) (s : State) : Touches [] s (s.setTransition o w x) :=
  fun p _ => by cases p <;> simp [Kept]

theorem setFormer_touches (o : Fin 4) (w : Fin 8) (x : Option (Option Content)) (s : State) : Touches [] s (s.setFormer o w x) :=
  fun p _ => by cases p <;> simp [Kept]

theorem setFreeze_touches (o : Fin 4) (w : Fin 8) (x : FreezeRecord) (s : State) : Touches [] s (s.setFreeze o w x) :=
  fun p _ => by cases p <;> simp [Kept]

theorem setList_touches (r : Fin 4) (x : RotationList) (s : State) : Touches [.lists] s (s.setList r x) :=
  fun p hp => by cases p <;> simp_all [Kept]

theorem setCue_touches (c : Fin 16) (x : Option Cue) (s : State) : Touches [.cues] s (s.setCue c x) :=
  fun p hp => by cases p <;> simp_all [Kept]

theorem setTrx_touches (x : Trx) (s : State) : Touches [.trunk] s (s.setTrx x) :=
  fun p hp => by cases p <;> simp_all [Kept]

theorem send_touches (x : Sent) (s : State) : Touches [.trunk] s (s.send x) :=
  fun p hp => by cases p <;> simp_all [Kept]

theorem mark_touches (x : FrameEndMark) (s : State) : Touches [.surveyMark] s (s.mark x) :=
  fun p hp => by cases p <;> simp_all [Kept]

/-- A mark of another block is not the survey's. -/
theorem mark_other_touches {x : FrameEndMark} (h : FrameEndMark.survey ≠ x) (s : State) : Touches [] s (s.mark x) :=
  fun p _ => by cases p <;> simp_all [Kept]

/-- RGU is written, its frame and its counter as they were. -/
theorem setRgu_touches {x : Rgu} {s : State} (hs : x.scan = s.rgu.scan) (hl : x.length = s.rgu.length)
    (hc : x.corr = s.rgu.corr) (hn : x.counter = s.rgu.counter) : Touches [] s (s.setRgu x) :=
  fun p _ => by cases p <;> simp_all [Kept]

/-- An output is written, its presets as they were. -/
theorem setOutput_touches {o : Fin 4} {x : Output} {s : State} (h : x.presets = (s.output o).presets) :
    Touches [.banks, .flags] s (s.setOutput o x) := by
  intro p hp
  cases p <;> simp_all [Kept]
  intro o'
  split
  · subst_vars; exact h
  · rfl

theorem raise_touches (c : Condition) (s : State) : Touches [.otherConditions] s (s.raise c) :=
  fun p hp => by cases p <;> simp_all [Kept]

/-- The conditions that an output frame end can set are SOURCE_STALE, SOURCE_LOST, LOCK_CHANGE and REFERENCE_LOST. -/
theorem raise_frameEnd_touches {c : Condition} (h : 6 ≤ c.bit ∧ c.bit ≤ 9) (s : State) : Touches [] s (s.raise c) := by
  intro p _
  cases p <;> simp_all [Kept, Condition.mask]
  intro n hn hlt heq
  omega

theorem raiseIf_touches (b : Bool) (c : Condition) (s : State) : Touches [.otherConditions] s (s.raiseIf b c) :=
  .ite (raise_touches c s) (.refl _ s)

theorem raiseIf_frameEnd_touches (b : Bool) {c : Condition} (h : 6 ≤ c.bit ∧ c.bit ≤ 9) (s : State) :
    Touches [] s (s.raiseIf b c) := .ite (raise_frameEnd_touches h s) (.refl _ s)

end Sys2Proof.Proofs
end

section
/-! PROOFS. The operations of the blocks, each with the pieces it may touch. -/

namespace Sys2Proof.Proofs

open Sys2Proof.Machine Sys2Proof.Claims Sys2Proof.Safety

variable {l : List Piece} {s t : State}

/-! ### Fields that no piece or one piece follows -/

theorem freezes_touches (x : Vector (Vector FreezeRecord 8) 4) (s : State) : Touches [] s { s with freezes := x } :=
  fun p _ => by cases p <;> simp [Kept, State.output]

theorem transitions_touches (x : Vector (Vector TransitionRecord 8) 4) (s : State) : Touches [] s { s with transitions := x } :=
  fun p _ => by cases p <;> simp [Kept, State.output]

theorem queue_touches (x : List QueueEntry) (s : State) : Touches [.queue] s { s with queue := x } :=
  fun p hp => by cases p <;> simp_all [Kept, State.output]

theorem survey_touches (x : Survey) (s : State) : Touches [.survey] s { s with survey := x } :=
  fun p hp => by cases p <;> simp_all [Kept, State.output]

theorem fmc_touches (x : Fmc) (v : Vector (Option Colour) 4) (s : State) : Touches [] s { s with fmc := x, samples := v } :=
  fun p _ => by cases p <;> simp [Kept, State.output]

/-! ### Stores, pins, freezes and the genlock reference -/

theorem pinSlot_touches (i : Fin 8) (k : Fin 3) (s : State) : Touches [] s (pinSlot i k s) := setStore_touches _ _ _

theorem unpinSlot_touches (i : Fin 8) (k : Fin 3) (s : State) : Touches [] s (unpinSlot i k s) := setStore_touches _ _ _

theorem takeFreeze_touches (o : Fin 4) (w i : Fin 8) (k : Fin 3) (shared : Bool) (s : State) :
    Touches [] s (takeFreeze o w i k shared s) :=
  ((pinSlot_touches i k s).trans (setFreeze_touches _ _ _ _)).trans (setTransition_touches _ _ _ _)

theorem releaseFreeze_touches (o : Fin 4) (w : Fin 8) (s : State) : Touches [] s (releaseFreeze o w s) := by
  unfold releaseFreeze
  split
  · exact (unpinSlot_touches _ _ s).trans (setFreeze_touches _ _ _ _)
  · exact setFreeze_touches _ _ _ _
  · exact .refl _ s

/-- LOCK_CHANGE is a condition of the output frame end. -/
theorem raiseLockChange_touches (b : Bool) (s : State) : Touches [] s (s.raiseIf b .lockChange) :=
  raiseIf_frameEnd_touches b (by decide) s

theorem referenceLoss_touches (s : State) : Touches [] s (referenceLoss s) :=
  .after (raiseLockChange_touches _ _)
    (.after (raise_frameEnd_touches (c := .referenceLost) (by decide) _) (setRgu_touches rfl rfl rfl rfl))

theorem leaveLive_touches (src : Fin 16) (s : State) : Touches [] s (leaveLive src s) :=
  .ite (referenceLoss_touches s) (.refl _ s)

theorem endBinding_touches (i : Fin 8) (s : State) : Touches [.queue] s (endBinding i s) := by
  unfold endBinding
  split
  · exact .refl _ s
  · exact .trans (.trans (queue_touches _ s) (freezes_touches _ _).any) (leaveLive_touches _ _).any

/-! ### The output frame end -/

theorem countSilence_touches (i : Fin 8) (s : State) : Touches [] s (countSilence i s) := by
  simp only [countSilence]
  split
  · exact .refl _ s
  · rename_i src _
    have counted : ∀ st b b', Touches [] s (((s.setStore i st).raiseIf b .sourceStale).raiseIf b' .sourceLost) := fun st b b' =>
      .trans (.trans (setStore_touches i st s) (raiseIf_frameEnd_touches b (by decide) _))
        (raiseIf_frameEnd_touches b' (by decide) _)
    exact .ite ((counted _ _ _).trans (leaveLive_touches src _)) (counted _ _ _)

theorem silencePart_touches (s : State) : Touches [] s (silencePart s) :=
  .foldl (fun s i => .ite (.refl _ s) (countSilence_touches i s)) _ s

theorem selectStore_touches (i : Fin 8) (s : State) : Touches [] s (selectStore i s) :=
  .ite (setStore_touches _ _ s) (.refl _ s)

theorem selectionPart_touches (s : State) : Touches [] s (selectionPart s) := .foldl (fun s i => selectStore_touches i s) _ s

theorem swapFreeze_touches (new : Option WindowRecord) (o : Fin 4) (w : Fin 8) (s : State) : Touches [] s (swapFreeze new o w s) := by
  unfold swapFreeze
  split
  · exact .refl _ s
  · exact .ite (.refl _ s) (releaseFreeze_touches o w s)
  · exact .ite (.refl _ s) (releaseFreeze_touches o w s)

theorem swapWindow_touches (o : Fin 4) (s : State) (w : Fin 8) : Touches [] s (swapWindow o s w) :=
  .trans (.trans (setFormer_touches _ _ _ s) (setTransition_touches _ _ _ _)) (swapFreeze_touches _ o w _)

theorem swapBanks_presets (out : Output) : (swapBanks out).presets = out.presets := rfl

theorem swapOutput_touches (o : Fin 4) (s : State) : Touches [.banks, .flags] s (swapOutput o s) :=
  .ite (.after (setOutput_touches (swapBanks_presets _)) (Touches.foldl (swapWindow_touches o) _ s).any) (.refl _ s)

theorem swapPart_touches (s : State) : Touches [.banks, .flags] s (swapPart s) := .foldl (fun s o => swapOutput_touches o s) _ s

theorem transitionPart_touches (s : State) : Touches [] s (transitionPart s) := transitions_touches _ s

theorem askStart_touches (r : Fin 4) (b : Shown) (style : Style) (duration : Nat) (s : State) (ow : Fin 4 × Fin 8) :
    Touches [] s (askStart r b style duration s ow) := by
  unfold askStart
  split
  · exact .refl _ s
  · exact .ite (.refl _ s) (.ite (setTransition_touches _ _ _ s)
      ((setTransition_touches _ _ _ s).trans (mark_other_touches FrameEndMark.noConfusion _)))

theorem askStarts_touches (r : Fin 4) (b : Shown) (style : Style) (duration : Nat) (s : State) :
    Touches [] s (askStarts r b style duration s) := .foldl (askStart_touches r b style duration) _ s

theorem advanceList_touches (r : Fin 4) (s : State) : Touches [.lists] s (advanceList r s) := by
  simp only [advanceList]
  split
  · exact setList_touches _ _ s
  · exact (askStarts_touches _ _ _ _ s).any.trans (setList_touches _ _ _)

theorem applyStaged_touches (r : Fin 4) (st : StagedList) (s : State) : Touches [.lists] s (applyStaged r st s) := by
  unfold applyStaged
  split
  · exact setList_touches _ _ s
  · exact (askStarts_touches _ _ _ _ s).any.trans (setList_touches _ _ _)

theorem listFrameEnd_touches (r : Fin 4) (s : State) : Touches [.lists] s (listFrameEnd r s) := by
  simp only [listFrameEnd]
  split
  · exact applyStaged_touches r _ s
  · exact .ite (.refl _ s) (.ite (advanceList_touches r s) (setList_touches _ _ s))

theorem listPart_touches (s : State) : Touches [.lists] s (listPart s) :=
  .foldl (fun s r => .ite (.refl _ s) (listFrameEnd_touches r s)) _ s

theorem takeArmed_touches (o : Fin 4) (w : Fin 8) (s : State) : Touches [] s (takeArmed o w s) := by
  unfold takeArmed
  split
  · rename_i tag i _
    have selected := selectStore_touches i s
    simp only
    split
    · exact selected
    · refine .ite ?_ selected
      split
      · exact selected.trans (takeFreeze_touches _ _ _ _ _ _)
      · exact selected.trans (takeFreeze_touches _ _ _ _ _ _)
      · exact selected
  · exact .refl _ s

theorem freezePart_touches (s : State) : Touches [] s (freezePart s) := by
  rw [freezePart]
  generalize allWindows = windows
  exact .foldl (fun s ow => takeArmed_touches ow.1 ow.2 s) windows s

theorem surveyPart_touches (s : State) : Touches [.survey] s (surveyPart s) := .ite (.refl _ s) (survey_touches _ s)

theorem countPart_touches (s : State) : Touches [.counter] s (countPart s) :=
  fun p hp => by cases p <;> simp_all [Kept, countPart]

theorem applyRaster_touches (s : State) : Touches [] s (applyRaster s) := by
  unfold applyRaster
  split
  · exact .refl _ s
  · exact .ite (setRgu_touches rfl rfl rfl rfl) (.after (raiseLockChange_touches _ _) (setRgu_touches rfl rfl rfl rfl))

theorem rasterPart_touches (s : State) : Touches [] s (rasterPart s) := .ite (.refl _ s) (applyRaster_touches s)

theorem genlockWork_touches (s : State) : Touches [] s (genlockWork s) := by
  unfold genlockWork
  simp only
  split
  · exact setRgu_touches rfl rfl rfl rfl
  · exact setRgu_touches rfl rfl rfl rfl
  · exact .after (raiseLockChange_touches _ _) (setRgu_touches rfl rfl rfl rfl)

theorem genlockPart_touches (s : State) : Touches [] s (genlockPart s) := .ite (.refl _ s) (genlockWork_touches s)

/-- The piece of state that each part of an output frame end is there to change. -/
def partPieces : FrameEndPart → List Piece
  | .swap => [.banks, .flags]
  | .lists => [.lists]
  | .survey => [.survey]
  | .count => [.counter]
  | _ => []

theorem framePart_touches (x : FrameEndPart) (s : State) : Touches (partPieces x) s (framePart x s) :=
  match x with
  | .silence => silencePart_touches s
  | .selection => selectionPart_touches s
  | .swap => swapPart_touches s
  | .transitions => transitionPart_touches s
  | .lists => listPart_touches s
  | .freezes => freezePart_touches s
  | .survey => surveyPart_touches s
  | .count => countPart_touches s
  | .raster => rasterPart_touches s
  | .genlock => genlockPart_touches s

/-- The pieces that the parts of an output frame end change between them. -/
def framePieces : List Piece := [.banks, .flags, .lists, .survey, .counter]

theorem frameParts_touch (xs : List FrameEndPart) (s : State) :
    Touches framePieces s (xs.foldl (fun s x => framePart x s) s) :=
  .foldl (fun s x => (framePart_touches x s).mono (by cases x <;> decide)) xs s

theorem closeFrame_touches (s : State) : Touches [.frame, .surveyMark] s (closeFrame s) :=
  fun p hp => by cases p <;> simp_all [Kept, closeFrame, State.output]

theorem frameEnd_touches (order : List FrameEndPart) (s : State) :
    Touches (.frame :: .surveyMark :: framePieces) s (frameEnd order s) :=
  ((frameParts_touch _ s).mono (by decide)).trans ((closeFrame_touches _).mono (by decide))

theorem frameStart_touches (s : State) : Touches [.frame, .plans] s (frameStart s) :=
  fun p hp => by cases p <;> simp_all [Kept, frameStart, latchPlans, fixFrame, State.output, State.setRgu]

theorem idleTick_touches (s : State) : Touches [] s (idleTick s) := by
  have moved : ∀ n, Touches [] s (moveTick n s) := fun n =>
    .after (fmc_touches _ _ _) (setRgu_touches rfl rfl rfl rfl)
  unfold idleTick
  split
  · exact .ite (moved _) (.refl _ s)
  · exact setRgu_touches rfl rfl rfl rfl
  · exact .refl _ s

end Sys2Proof.Proofs
end

section
/-! PROOFS. The commands, each with the pieces it may touch, and so the writers of every piece. -/

namespace Sys2Proof.Proofs

open Sys2Proof.Machine Sys2Proof.Claims Sys2Proof.Safety

variable {l : List Piece} {s t : State}

/-! ### Picture traffic -/

theorem moveTick_touches (n : Nat) (s : State) : Touches [] s (moveTick n s) :=
  .after (fmc_touches _ _ _) (setRgu_touches rfl rfl rfl rfl)

theorem reachTick_touches (tick : Nat) (s : State) : Touches [] s (reachTick tick s) :=
  .ite (moveTick_touches _ s) (.refl _ s)

theorem surveyCell_touches (src : Fin 16) (f : SurveyRecord → SurveyRecord) (s : State) :
    Touches [.survey] s (surveyCell src f s) := .ite (survey_touches _ s) (.refl _ s)

theorem capture_touches (src : Fin 16) (s : State) : Touches [] s (capture src s) :=
  .ite (setRgu_touches rfl rfl rfl rfl) (.refl _ s)

theorem damageFrame_touches (i : Fin 8) (k : Fin 3) (s : State) : Touches [.otherConditions] s (damageFrame i k s) :=
  .after (raise_touches _ _) (setStore_touches _ _ s).any

theorem endUnclosed_touches (i : Fin 8) (s : State) : Touches [.otherConditions] s (endUnclosed i s) := by
  unfold endUnclosed
  split
  · exact damageFrame_touches i _ s
  · exact .refl _ s

theorem clearDropping_touches (i : Fin 8) (s : State) : Touches [] s (clearDropping i s) := setStore_touches _ _ s

theorem chooseSlot_touches (i : Fin 8) (tag : Byte) (width height cells : Nat) (s : State) :
    Touches [.otherConditions] s (chooseSlot i tag width height cells s) := by
  unfold chooseSlot
  simp only
  split
  · exact .after (raiseIf_touches _ _ _) (setStore_touches _ _ s).any
  · exact .after (raise_touches _ _) (setStore_touches _ _ s).any

theorem storeOpen_touches (i : Fin 8) (tag : Byte) (width height cells : Nat) (s : State) :
    Touches [.otherConditions] s (storeOpen i tag width height cells s) := by
  have arrived : Touches [.otherConditions] s (s.setStore i (s.store i).arrival) := (setStore_touches _ _ s).any
  exact .ite
    (.after (chooseSlot_touches i tag width height cells _)
      (.after (clearDropping_touches i _).any (.after (endUnclosed_touches i _) arrived)))
    (.after (setStore_touches _ _ _).any arrived)

/-- What the stores do with a picture cell that is accepted into the write queue. -/
theorem accept_touches (i : Fin 8) (x : Store) (q : List QueueEntry) (s : State) :
    Touches [.queue] s { s.setStore i x with queue := q } := .after (queue_touches q _) (setStore_touches i x s).any

/-- The pieces that the stores change when they take a picture cell. -/
def storePieces : List Piece := [.queue, .otherConditions]

theorem matchPic_touches (i : Fin 8) (tag : Byte) (sequence line first : Nat) (pixels : List Colour) (s : State) :
    Touches storePieces s (matchPic i tag sequence line first pixels s) := by
  unfold matchPic
  have damaged : ∀ k, Touches storePieces s (damageFrame i k s) := fun k => (damageFrame_touches i k s).mono (by decide)
  split
  · exact (setStore_touches _ _ s).any
  · exact .ite (damaged _) (.ite (.after ((raise_touches _ _).mono (by decide)) (damaged _))
      ((accept_touches _ _ _ s).mono (by decide)))

theorem storePic_touches (i : Fin 8) (tag : Byte) (sequence line first count : Nat) (pixels : List Colour) (s : State) :
    Touches storePieces s (storePic i tag sequence line first count pixels s) := by
  have arrived : Touches storePieces s (s.setStore i (s.store i).arrival) := (setStore_touches _ _ s).any
  exact .ite arrived (.ite (.after (matchPic_touches i tag sequence line first pixels _) arrived)
    (.after (setStore_touches _ _ _).any arrived))

theorem matchClose_touches (i : Fin 8) (tag : Byte) (cells : Nat) (s : State) :
    Touches storePieces s (matchClose i tag cells s) := by
  unfold matchClose
  have damaged : ∀ k, Touches storePieces s (damageFrame i k s) := fun k => (damageFrame_touches i k s).mono (by decide)
  split
  · exact (setStore_touches _ _ s).any
  · exact .ite (damaged _) (.ite (.after ((raise_touches _ _).mono (by decide)) (damaged _))
      ((accept_touches _ _ _ s).mono (by decide)))

theorem storeClose_touches (i : Fin 8) (tag : Byte) (cells : Nat) (s : State) :
    Touches storePieces s (storeClose i tag cells s) := by
  have arrived : Touches storePieces s (s.setStore i (s.store i).arrival) := (setStore_touches _ _ s).any
  exact .ite arrived (.after (matchClose_touches i tag cells _) arrived)

theorem forStore_touches {src : Fin 16} {f : Fin 8 → State → State} (h : ∀ i s, Touches l s (f i s)) (s : State) :
    Touches l s (forStore src f s) := by
  unfold forStore
  split
  · exact .refl _ s
  · exact h _ s

/-- The pieces that a picture cell changes. -/
def picturePieces : List Piece := [.survey, .queue, .otherConditions]

theorem takeOpen_touches (source tag : Byte) (width height cells : Half) (tick : Nat) (s : State) :
    Touches picturePieces s (takeOpen source tag width height cells tick s) := by
  have reached : Touches picturePieces s (reachTick tick s) := (reachTick_touches tick s).any
  unfold takeOpen
  simp only
  split
  · exact reached
  · exact .after (forStore_touches (fun i s => (storeOpen_touches i _ _ _ _ s).mono (by decide)) _)
      (.after (capture_touches _ _).any (.after ((surveyCell_touches _ _ _).mono (by decide)) reached))

theorem takePic_touches (source tag : Byte) (sequence line first : Half) (count : Byte) (pixels : List Word) (s : State) :
    Touches picturePieces s (takePic source tag sequence line first count pixels s) := by
  unfold takePic
  split
  · exact .refl _ s
  · exact .after (forStore_touches (fun i s => (storePic_touches i _ _ _ _ _ _ s).mono (by decide)) _)
      ((surveyCell_touches _ _ s).mono (by decide))

theorem takeClose_touches (source tag : Byte) (cells : Half) (s : State) :
    Touches picturePieces s (takeClose source tag cells s) := by
  unfold takeClose
  split
  · exact .refl _ s
  · exact forStore_touches (fun i s => (storeClose_touches i _ _ s).mono (by decide)) s

/-! ### The frame memory controller -/

theorem serveFetches_touches (s : State) : Touches [] s (serveFetches s) := by
  rw [serveFetches_eq]
  exact fmc_touches _ _ s

theorem grantHead_touches (rest : List QueueEntry) (s : State) : Touches [.queue] s (grantHead rest s) :=
  fun p hp => by cases p <;> simp_all [Kept, grantHead, State.output]

theorem memory_touches (m : List (Nat × Colour)) (s : State) : Touches [.memory] s { s with memory := m } :=
  fun p hp => by cases p <;> simp_all [Kept, State.output]

theorem picWriteStep_touches (s : State) : Touches [.queue, .memory] s (picWriteStep s) := by
  have served := serveFetches_touches s
  unfold picWriteStep
  simp only
  split
  · exact .after ((memory_touches _ _).mono (by decide)) (.after ((grantHead_touches _ _).mono (by decide)) served.any)
  · exact .refl _ s

theorem completeSlot_touches (i : Fin 8) (k : Fin 3) (s : State) : Touches [] s (completeSlot i k s) := by
  unfold completeSlot
  split
  · exact .ite (setStore_touches _ _ s) (.refl _ s)
  · exact .refl _ s

theorem completionStep_touches (s : State) : Touches [.queue] s (completionStep s) := by
  have served := serveFetches_touches s
  unfold completionStep
  simp only
  split
  · exact .after (completeSlot_touches _ _ _).any (.after (grantHead_touches _ _) served.any)
  · exact .refl _ s

/-! ### The layout unit, and the cues that act on it -/

theorem editPending_touches (o : Fin 4) (x : List WindowRecord) (s : State) : Touches [.banks, .flags] s (editPending o x s) :=
  setOutput_touches rfl

theorem forOutputs_touches {mask : BitVec 4} {f : Fin 4 → State → State} (h : ∀ o s, Touches l s (f o s)) (s : State) :
    Touches l s (forOutputs mask f s) := .foldl (fun s o => h o s) _ s

theorem recallInto_touches (n : Fin 8) (o : Fin 4) (s : State) :
    Touches [.banks, .flags, .otherConditions] s (recallInto n o s) := by
  unfold recallInto
  split
  · exact .refl _ s
  · exact .after ((raiseIf_touches _ _ _).mono (by decide)) (.mono (setOutput_touches rfl) (by decide))

/-- An output is written, its banks and presets as they were. -/
theorem setOutput_flags_touches {o : Fin 4} {x : Output} {s : State} (ha : x.active = (s.output o).active)
    (hp : x.pending = (s.output o).pending) (hs : x.presets = (s.output o).presets) : Touches [.flags] s (s.setOutput o x) := by
  intro p hm
  cases p <;> simp_all [Kept] <;> (intro o'; split <;> simp_all)

theorem setMode_touches (m : OutputMode) (o : Fin 4) (s : State) : Touches [.flags] s (setMode m o s) :=
  setOutput_flags_touches rfl rfl rfl

theorem armOutput_touches (o : Fin 4) (s : State) : Touches [.flags] s (armOutput o s) := setOutput_flags_touches rfl rfl rfl

theorem takeAction_touches (a : CueAction) (s : State) : Touches [.banks, .flags, .otherConditions] s (takeAction a s) := by
  unfold takeAction
  split
  · exact forOutputs_touches (recallInto_touches _) s
  · exact forOutputs_touches (fun o s => (setMode_touches _ o s).mono (by decide)) s

/-- The pieces that the evaluation of the cues changes. -/
def cuePieces : List Piece := [.banks, .flags, .otherConditions, .cues]

theorem evaluateCue_touches (c : Clock) (s : State) (i : Fin 16) : Touches cuePieces s (evaluateCue c s i) := by
  unfold evaluateCue
  split
  · exact .refl _ s
  · exact .after ((setCue_touches _ _ _).mono (by decide))
      (.ite (.after ((raise_touches _ _).mono (by decide)) ((takeAction_touches _ s).mono (by decide))) (.refl _ s))

theorem clock_touches (c : Clock) (s : State) : Touches [.clock] s { s with clock := some c } :=
  fun p hp => by cases p <;> simp_all [Kept, State.output]

theorem takeTimebase_touches (weekday hour minute second frame : Byte) (s : State) :
    Touches (.clock :: cuePieces) s (takeTimebase weekday hour minute second frame s) := by
  unfold takeTimebase
  split
  · exact .refl _ s
  · exact .after (.foldl (fun s i => (evaluateCue_touches _ s i).mono (by decide)) _ _) ((clock_touches _ s).mono (by decide))

/-! ### The trunk -/

theorem enterHunt_touches (s : State) : Touches [.trunk, .rest] s (enterHunt s) :=
  fun p hp => by cases p <;> simp_all [Kept, enterHunt, State.output]

theorem noCell_touches (s : State) : Touches [.trunk] s s.noCell := .ite (.refl _ s) (send_touches _ s)

theorem goodCell_touches (s : State) : Touches [.trunk] s s.goodCell := setTrx_touches _ s

theorem fwd_touches (x : Fwd) (s : State) : Touches [.trunk] s { s with fwd := x } :=
  fun p hp => by cases p <;> simp_all [Kept, State.output]

/-- The pieces that TRX and FWD change. -/
def trunkPieces : List Piece := [.trunk, .rest, .otherConditions]

/-- TRX is written and enters HUNT. -/
theorem setTrx_enterHunt_touches (x : Trx) (s : State) : Touches trunkPieces s (enterHunt (s.setTrx x)) :=
  .after ((enterHunt_touches _).mono (by decide)) ((setTrx_touches x s).mono (by decide))

theorem failedHeader_touches (s : State) : Touches trunkPieces s (failedHeader s) := by
  have counted : ∀ x, Touches trunkPieces s (((s.setTrx x).raise .linkError).send .fill) := fun x =>
    .after ((send_touches _ _).mono (by decide))
      (.after ((raise_touches _ _).mono (by decide)) ((setTrx_touches x s).mono (by decide)))
  exact .ite (.after (.after ((raise_touches _ _).mono (by decide)) (setTrx_enterHunt_touches _ _)) (counted _)) (counted _)

theorem goodInHunt_touches (s : State) : Touches [.trunk] s (goodInHunt s) := .ite (setTrx_touches _ s) (setTrx_touches _ s)

theorem failedInHunt_touches (s : State) : Touches [.trunk] s (failedInHunt s) := setTrx_touches _ s

theorem loseSignal_touches (s : State) : Touches trunkPieces s (loseSignal s) :=
  .after ((raiseIf_touches _ _ _).mono (by decide))
    (.after ((fwd_touches _ _).mono (by decide)) ((setTrx_touches _ s).mono (by decide)))

theorem beginBreak_touches (s : State) : Touches [.trunk] s (beginBreak s) := .after (fwd_touches _ _) (setTrx_touches _ s)

theorem endBreak_touches (s : State) : Touches trunkPieces s (endBreak s) :=
  .after ((raiseIf_touches _ _ _).mono (by decide))
    (.after ((send_touches _ _).mono (by decide)) (setTrx_enterHunt_touches _ s))

theorem takeEnum_touches (next : Byte) (s : State) : Touches [.trunk, .address] s (takeEnum next s) := by
  have assigned : Touches [.trunk, .address] s { s with address := some next } :=
    fun p hp => by cases p <;> simp_all [Kept, State.output]
  exact .ite (.after ((send_touches _ _).mono (by decide)) assigned) ((send_touches _ s).mono (by decide))

/-- The pieces that a chain break changes. -/
def breakPieces : List Piece := [.trunk, .address, .survey, .otherConditions]

theorem takeChainBreak_touches (b : Break) (s : State) : Touches breakPieces s (takeChainBreak b s) :=
  fun p hp => by cases p <;> simp_all [Kept, takeChainBreak, breakPieces, State.output]

theorem chainBreakStep_touches (s : State) : Touches breakPieces s (chainBreakStep s) := by
  have begun : Touches breakPieces s (if s.trx.brk.isSome = true then s else beginBreak s) :=
    .ite (.refl _ s) ((beginBreak_touches s).mono (by decide))
  unfold chainBreakStep
  simp only
  split
  · exact .ite begun (.after (takeChainBreak_touches _ _) begun)
  · exact begun

/-! ### Cells and requests -/

/-- What is delivered as a cell touches what `act` touches, and the trunk. -/
theorem onCell_touches {act : State → State} (hl : Piece.trunk ∈ l) (h : ∀ s, Touches l s (act s)) (e : onCell act s = .next t) :
    Touches l s t := by
  have trunk : [Piece.trunk] ⊆ l := by simpa using hl
  cases e
  exact .ite (.after (h _) ((goodCell_touches s).mono trunk)) ((noCell_touches s).mono trunk)

theorem onForwarded_touches {act : State → State} (hl : Piece.trunk ∈ l) (h : ∀ s, Touches l s (act s))
    (e : onForwarded act s = .next t) : Touches l s t :=
  onCell_touches hl (fun s => .after ((send_touches _ _).mono (by simpa using hl)) (h s)) e

theorem onRequest_touches {q : ReqHead} {code : Byte} {own : State → Answer} {all : State → State} (hl : Piece.trunk ∈ l)
    (ho : ∀ s, Touches l s (own s).state) (ha : ∀ s, Touches l s (all s)) (e : onRequest q code own all s = .next t) :
    Touches l s t := by
  have sent : ∀ x s, Touches l s (s.send x) := fun x s => (send_touches x s).mono (by simpa using hl)
  exact onCell_touches hl
    (fun s => .ite (.after (sent _ _) (ha s)) (.ite (.after (sent _ _) (ho s)) (sent _ s))) e

theorem onAddressed_touches {q : ReqHead} {code : Byte} {own : State → Answer} (hl : Piece.trunk ∈ l)
    (ho : ∀ s, Touches l s (own s).state) (e : onAddressed q code own s = .next t) : Touches l s t :=
  onRequest_touches hl ho (fun s => .refl _ s) e

theorem onEither_touches {q : ReqHead} {code : Byte} {own : State → Answer} (hl : Piece.trunk ∈ l)
    (ho : ∀ s, Touches l s (own s).state) (e : onEither q code own s = .next t) : Touches l s t :=
  onRequest_touches hl ho ho e

end Sys2Proof.Proofs
end

section
/-! PROOFS. What a command may write: the answers of the requests, and `exec` as a whole. -/

namespace Sys2Proof.Proofs

open Sys2Proof.Machine Sys2Proof.Claims Sys2Proof.Safety

variable {l : List Piece} {s t : State}

/-! ### The answers of the requests -/

/-- An answer that leaves the state as it is. -/
theorem touches_of_eq (h : t = s) : Touches [] s t := by rw [h]; exact .refl _ s

theorem statusAnswer_touches (page : Byte) (s : State) : Touches [] s (statusAnswer page s).state :=
  touches_of_eq (by unfold statusAnswer; split <;> rfl)

theorem surveyreadAnswer_touches (source : Byte) (s : State) : Touches [] s (surveyreadAnswer source s).state := by
  refine touches_of_eq ?_
  unfold surveyreadAnswer
  split
  · rfl
  · split <;> rfl

theorem winreadAnswer_touches (output window bank : Byte) (s : State) : Touches [] s (winreadAnswer output window bank s).state := by
  refine touches_of_eq ?_
  unfold winreadAnswer
  split
  · simp only
    split <;> rfl
  · rfl

theorem clearAnswer_touches (mask : Half) (s : State) : Touches [.conditions, .otherConditions] s (clearAnswer mask s).state :=
  fun p hp => by cases p <;> simp_all [Kept, clearAnswer, State.output]

theorem rasterAnswer_touches (aw ah tw th : Half) (bg : Word) (s : State) : Touches [] s (rasterAnswer aw ah tw th bg s).state := by
  unfold rasterAnswer
  split
  · exact .refl _ s
  · exact setRgu_touches rfl rfl rfl rfl

theorem outmodeAnswer_touches (mask mode : Byte) (s : State) : Touches [.flags] s (outmodeAnswer mask mode s).state := by
  unfold outmodeAnswer
  split
  · exact forOutputs_touches (setMode_touches _) s
  · exact .refl _ s

theorem silenceAnswer_touches (hold : Byte) (loss : Half) (s : State) : Touches [.limits] s (silenceAnswer hold loss s).state := by
  unfold silenceAnswer
  split
  · split
    · exact fun p hp => by cases p <;> simp_all [Kept, State.output]
    · exact .refl _ s
  · exact .refl _ s

theorem subscribeAnswer_touches (store source : Byte) (s : State) : Touches [.queue] s (subscribeAnswer store source s).state := by
  unfold subscribeAnswer
  split
  · split
    · exact .refl _ s
    · split
      · exact .refl _ s
      · exact .after (setStore_touches _ _ _).any (endBinding_touches _ s)
  · exact .refl _ s

theorem releaseAnswer_touches (store : Byte) (s : State) : Touches [.queue] s (releaseAnswer store s).state := by
  unfold releaseAnswer
  split
  · exact .refl _ s
  · split
    · exact .refl _ s
    · split
      · exact .refl _ s
      · exact .after (setStore_touches _ _ _).any (endBinding_touches _ s)

/-- The pieces that an edit of the layout changes. -/
def editPieces : List Piece := [.banks, .flags]

theorem placeWindow_touches (o : Fin 4) (r : WindowRecord) (s : State) : Touches editPieces s (placeWindow o r s).state := by
  unfold placeWindow
  simp only
  split
  · exact editPending_touches _ _ s
  · split
    · exact .refl _ s
    · exact editPending_touches _ _ s

theorem winsetAnswer_touches (output : Byte) (raw : RawWindow) (s : State) :
    Touches editPieces s (winsetAnswer output raw s).state := by
  unfold winsetAnswer
  split
  · split
    · exact .refl _ s
    · split
      · exact .refl _ s
      · exact placeWindow_touches _ _ s
  · exact .refl _ s

theorem windropAnswer_touches (output window : Byte) (s : State) : Touches editPieces s (windropAnswer output window s).state := by
  unfold windropAnswer
  split
  · split
    · exact .refl _ s
    · split
      · exact .refl _ s
      · exact editPending_touches _ _ s
  · exact .refl _ s

theorem winmoveAnswer_touches (output window target : Byte) (s : State) :
    Touches editPieces s (winmoveAnswer output window target s).state := by
  unfold winmoveAnswer
  split
  · split
    · exact .refl _ s
    · split
      · exact .refl _ s
      · exact editPending_touches _ _ s
  · exact .refl _ s

theorem discardAnswer_touches (output : Byte) (s : State) : Touches editPieces s (discardAnswer output s).state := by
  unfold discardAnswer
  split
  · exact .refl _ s
  · split
    · exact .refl _ s
    · exact setOutput_touches rfl

theorem commitAnswer_touches (mask : Byte) (s : State) : Touches [.flags] s (commitAnswer mask s).state := by
  unfold commitAnswer
  split
  · exact .refl _ s
  · exact forOutputs_touches armOutput_touches s

/-- An output is written, its banks and flags as they were. -/
theorem setOutput_presets_touches (o : Fin 4) (x : Vector (Option (List WindowRecord)) 8) (s : State) :
    Touches [.presets] s (s.setOutput o { s.output o with presets := x }) := by
  intro p hp
  cases p <;> simp_all [Kept] <;> (intro o'; split <;> simp_all)

theorem presaveAnswer_touches (output preset : Byte) (s : State) : Touches [.presets] s (presaveAnswer output preset s).state := by
  unfold presaveAnswer
  split
  · exact setOutput_presets_touches _ _ s
  · exact .refl _ s

/-- The pieces that a recall changes. -/
def recallPieces : List Piece := [.banks, .flags, .otherConditions]

theorem recallAnswer_touches (mask preset : Byte) (s : State) : Touches recallPieces s (recallAnswer mask preset s).state := by
  unfold recallAnswer
  split
  · split
    · exact .refl _ s
    · split
      · exact .refl _ s
      · exact forOutputs_touches (recallInto_touches _) s
  · exact .refl _ s

theorem recallAll_touches (mask preset : Byte) (s : State) : Touches recallPieces s (recallAll mask preset s) := by
  unfold recallAll
  split
  · exact forOutputs_touches (recallInto_touches _) s
  · exact .refl _ s

theorem rearm_touches (o : Fin 4) (w : Fin 8) (was new : Shown) (s : State) : Touches [] s (rearm o w was new s) := by
  unfold rearm
  split
  · exact .ite (.refl _ s) (setFreeze_touches _ _ _ s)
  · exact .refl _ s

theorem takeAnswer_touches (output window kind : Byte) (value : Word) (style duration : Byte) (s : State) :
    Touches editPieces s (takeAnswer output window kind value style duration s).state := by
  unfold takeAnswer
  split
  · split
    · exact .refl _ s
    · split
      · exact .refl _ s
      · exact .after (setTransition_touches _ _ _ _).any (.after (rearm_touches _ _ _ _ _).any (setOutput_touches rfl))
  · exact .refl _ s

/-- A FREEZE touches what its action does. -/
theorem freezeChecked_touches {kindOk : Bool} {output window : Byte} {s : State} {act : Fin 4 → Fin 8 → Fin 8 → Answer}
    (h : ∀ o w i, Touches l s (act o w i).state) : Touches l s (freezeChecked kindOk output window s act).state := by
  unfold freezeChecked
  split
  · split
    · exact .refl _ s
    · split
      · exact .refl _ s
      · split
        · exact .refl _ s
        · exact h _ _ _
    · exact .refl _ s
  · exact .refl _ s

theorem freezeNowAnswer_touches (output window kind : Byte) (s : State) :
    Touches [] s (freezeNowAnswer output window kind s).state := by
  refine freezeChecked_touches fun o w i => ?_
  unfold freezeNowOn
  split
  · exact takeFreeze_touches _ _ _ _ _ s
  · exact takeFreeze_touches _ _ _ _ _ s
  · exact .refl _ s

theorem freezeAtAnswer_touches (output window tag : Byte) (s : State) : Touches [] s (freezeAtAnswer output window tag s).state :=
  freezeChecked_touches fun o w _ => setFreeze_touches o w _ s

theorem thawAnswer_touches (output window : Byte) (s : State) : Touches [] s (thawAnswer output window s).state := by
  unfold thawAnswer
  split
  · exact .after (setTransition_touches _ _ _ _) (releaseFreeze_touches _ _ s)
  · exact .refl _ s

theorem rotsetAnswer_touches (list count : Byte) (entries : List Byte) (dwell : Half) (style duration : Byte) (s : State) :
    Touches [.lists] s (rotsetAnswer list count entries dwell style duration s).state := by
  unfold rotsetAnswer
  split
  · exact setList_touches _ _ s
  · exact .refl _ s

theorem cuesetAnswer_touches (entry : Byte) (raw : RawCue) (s : State) : Touches [.cues] s (cuesetAnswer entry raw s).state := by
  unfold cuesetAnswer
  split
  · exact setCue_touches _ _ s
  · exact .refl _ s

theorem cuedropAnswer_touches (entry : Byte) (s : State) : Touches [.cues] s (cuedropAnswer entry s).state := by
  unfold cuedropAnswer
  split
  · exact setCue_touches _ _ s
  · exact .refl _ s

theorem genlockAnswer_touches (source : Byte) (s : State) : Touches [] s (genlockAnswer source s).state := by
  unfold genlockAnswer
  split
  · exact .refl _ s
  · exact .after (raiseLockChange_touches _ _) (setRgu_touches rfl rfl rfl rfl)
  · split
    · exact .after (raiseLockChange_touches _ _) (setRgu_touches rfl rfl rfl rfl)
    · exact .refl _ s

theorem surveyAnswer_touches (frames : Byte) (s : State) : Touches [.survey] s (surveyAnswer frames s).state := by
  unfold surveyAnswer
  split
  · exact .refl _ s
  · split
    · exact .refl _ s
    · exact survey_touches _ s

/-- The pieces that RESTART changes: every one but the address, frame memory and the presets (R174). -/
def restartPieces : List Piece :=
  [.trunk, .limits, .queue, .frame, .counter, .banks, .flags, .lists, .clock, .cues, .plans, .survey, .surveyMark, .conditions,
    .otherConditions, .rest]

theorem restarted_touches (s : State) : Touches restartPieces s (restarted s) :=
  fun p hp => by cases p <;> simp_all [Kept, restartPieces, restarted, State.output]

/-! ### Every command -/

/-- The pieces that no statement names a writer of. -/
def unfollowed : List Piece := [.trunk, .queue, .frame, .counter, .flags, .cues, .survey, .surveyMark, .otherConditions, .rest]

/-- The other pieces that a command may write. -/
def written : Instr → List Piece
  | .clear _ _ => [.conditions]
  | .silence _ _ _ => [.limits]
  | .winset _ _ _ => [.banks]
  | .windrop _ _ _ => [.banks]
  | .winmove _ _ _ _ => [.banks]
  | .discard _ _ => [.banks]
  | .presave _ _ _ => [.presets]
  | .recall _ _ _ => [.banks]
  | .take _ _ _ _ _ _ _ => [.banks]
  | .rotset _ _ _ _ _ _ _ => [.lists]
  | .restart _ => restartPieces
  | .timebase _ _ _ _ _ => [.clock, .banks]
  | .enumCell _ => [.address]
  | .chainBreak => [.address]
  | .powerOn => restartPieces ++ [.address, .memory, .presets]
  | .powerOnFillEnd => [.plans]
  | .outputFrameEnd _ => [.banks, .lists]
  | .outputFrameStart => [.plans]
  | .picWrite => [.memory]
  | .listAdvance _ => [.lists]
  | _ => []

/-- A request within the bound of a command that writes `w`. -/
theorem addressed_touches {q : ReqHead} {code : Byte} {own : State → Answer} {l' : List Piece} (w : List Piece)
    (ho : ∀ s, Touches l' s (own s).state) (hl : l' ⊆ unfollowed ++ w) (e : onAddressed q code own s = .next t) :
    Touches (unfollowed ++ w) s t :=
  onAddressed_touches (List.mem_append_left w (by decide)) (fun s => (ho s).mono hl) e

theorem either_touches {q : ReqHead} {code : Byte} {own : State → Answer} {l' : List Piece} (w : List Piece)
    (ho : ∀ s, Touches l' s (own s).state) (hl : l' ⊆ unfollowed ++ w) (e : onEither q code own s = .next t) :
    Touches (unfollowed ++ w) s t :=
  onEither_touches (List.mem_append_left w (by decide)) (fun s => (ho s).mono hl) e

theorem forwarded_touches {act : State → State} {l' : List Piece} (w : List Piece) (h : ∀ s, Touches l' s (act s))
    (hl : l' ⊆ unfollowed ++ w) (e : onForwarded act s = .next t) : Touches (unfollowed ++ w) s t :=
  onForwarded_touches (List.mem_append_left w (by decide)) (fun s => (h s).mono hl) e

/-- An event that comes about where its trigger holds. -/
theorem event_touches {l' : List Piece} {c : Prop} [Decidable c] {u : State} (w : List Piece) (h : Touches l' s u)
    (hl : l' ⊆ unfollowed ++ w) (e : (Host.Outcome.next (if c then u else s) : Result) = .next t) :
    Touches (unfollowed ++ w) s t := by
  cases e
  exact .ite (h.mono hl) (.refl _ s)

/-- An event that comes about unless something stands against it. -/
theorem event_unless_touches {l' : List Piece} {c : Prop} [Decidable c] {u : State} (w : List Piece) (h : Touches l' s u)
    (hl : l' ⊆ unfollowed ++ w) (e : (Host.Outcome.next (if c then s else u) : Result) = .next t) :
    Touches (unfollowed ++ w) s t := by
  cases e
  exact .ite (.refl _ s) (h.mono hl)

theorem silenceMove_touches (i : Fin 8) (before : List SourceState) (after : SourceState) (s : State) :
    Touches [] s (silenceMove i before after s) :=
  .ite (.after (mark_other_touches FrameEndMark.noConfusion _) (countSilence_touches i s)) (.refl _ s)

theorem genlockMove_touches (g g' : GenlockState) (s : State) : Touches [] s (genlockMove g g' s) :=
  .ite (.after (mark_other_touches FrameEndMark.noConfusion _) (genlockWork_touches s)) (.refl _ s)

theorem huntCheck_touches (header : List Byte) (check : Half) (s : State) :
    Touches [.trunk] s ((if goodHeader header check then goodInHunt s else failedInHunt s).send .fill) :=
  .after (send_touches _ _) (.ite (goodInHunt_touches s) (failedInHunt_touches s))

/-- Nothing bounds what POWER_ON writes. -/
theorem powerOn_written (p : Piece) : p ∈ unfollowed ++ written .powerOn := by cases p <;> decide

/-- A command changes only the pieces it may write, and those that are not followed. -/
theorem exec_touches {c : Instr} (e : exec c s = .next t) : Touches (unfollowed ++ written c) s t := by
  cases c with
  | ident q =>
    exact addressed_touches (own := fun s => ⟨s, .done, identResult s, none⟩) [] (fun s => .refl [] s) (by decide) e
  | status q page => exact addressed_touches [] (statusAnswer_touches page) (by decide) e
  | clear q mask => exact either_touches [.conditions] (clearAnswer_touches mask) (by decide) e
  | raster q aw ah tw th bg => exact either_touches [] (rasterAnswer_touches aw ah tw th bg) (by decide) e
  | outmode q mask mode => exact either_touches [] (outmodeAnswer_touches mask mode) (by decide) e
  | silence q hold loss => exact either_touches [.limits] (silenceAnswer_touches hold loss) (by decide) e
  | subscribe q store source => exact addressed_touches [] (subscribeAnswer_touches store source) (by decide) e
  | release q store => exact addressed_touches [] (releaseAnswer_touches store) (by decide) e
  | winset q output raw => exact addressed_touches [.banks] (winsetAnswer_touches output raw) (by decide) e
  | windrop q output window => exact addressed_touches [.banks] (windropAnswer_touches output window) (by decide) e
  | winmove q output window target => exact addressed_touches [.banks] (winmoveAnswer_touches output window target) (by decide) e
  | winread q output window bank => exact addressed_touches [] (winreadAnswer_touches output window bank) (by decide) e
  | discard q output => exact addressed_touches [.banks] (discardAnswer_touches output) (by decide) e
  | commit q mask => exact either_touches [] (commitAnswer_touches mask) (by decide) e
  | presave q output preset => exact addressed_touches [.presets] (presaveAnswer_touches output preset) (by decide) e
  | take q output window kind value style duration =>
    exact addressed_touches [.banks] (takeAnswer_touches output window kind value style duration) (by decide) e
  | freezeNow q output window kind => exact addressed_touches [] (freezeNowAnswer_touches output window kind) (by decide) e
  | freezeAt q output window tag => exact addressed_touches [] (freezeAtAnswer_touches output window tag) (by decide) e
  | thaw q output window => exact addressed_touches [] (thawAnswer_touches output window) (by decide) e
  | rotset q list count entries dwell style duration =>
    exact either_touches [.lists] (rotsetAnswer_touches list count entries dwell style duration) (by decide) e
  | cueset q entry raw => exact either_touches [] (cuesetAnswer_touches entry raw) (by decide) e
  | cuedrop q entry => exact either_touches [] (cuedropAnswer_touches entry) (by decide) e
  | genlock q source => exact either_touches [] (genlockAnswer_touches source) (by decide) e
  | survey q frames => exact addressed_touches [] (surveyAnswer_touches frames) (by decide) e
  | surveyread q source => exact addressed_touches [] (surveyreadAnswer_touches source) (by decide) e
  | restart q => exact either_touches restartPieces restarted_touches (by decide) e
  | unknownRequest q code =>
    exact addressed_touches (own := fun s => refuse s .unknown) [] (fun s => .refl [] s) (by decide) e
  | frameOpen source tag width height cells tick =>
    exact forwarded_touches [] (takeOpen_touches source tag width height cells tick) (by decide) e
  | pic source tag sequence line first count pixels =>
    exact forwarded_touches [] (takePic_touches source tag sequence line first count pixels) (by decide) e
  | frameClose source tag cells => exact forwarded_touches [] (takeClose_touches source tag cells) (by decide) e
  | timebase weekday hour minute second frame =>
    exact forwarded_touches [.clock, .banks] (takeTimebase_touches weekday hour minute second frame) (by decide) e
  | enumCell next =>
    exact onCell_touches (l := unfollowed ++ [.address]) (by decide) (fun s => (takeEnum_touches next s).mono (by decide)) e
  | forwardCell kind => exact forwarded_touches [] (fun s => .refl [] s) (by decide) e
  | headerError =>
    cases e
    exact .ite ((failedHeader_touches s).mono (l' := unfollowed) (by decide)) ((noCell_touches s).mono (by decide))
  | huntHeaderCheck header check => exact event_touches [] (huntCheck_touches header check s) (by decide) e
  | syncReached => exact event_touches [] (.after (send_touches _ _) (goodInHunt_touches s)) (by decide) e
  | linkHunt => exact event_touches [] (failedHeader_touches s) (by decide) e
  | lossOfSignal => exact event_unless_touches [] (loseSignal_touches s) (by decide) e
  | signalReceived =>
    exact event_touches [] (.after ((send_touches _ _).mono (by decide)) (enterHunt_touches s)) (by decide) e
  | breakStart => exact event_unless_touches [] (beginBreak_touches s) (by decide) e
  | breakEnd => exact event_touches [] (endBreak_touches s) (by decide) e
  | chainBreak => cases e; exact (chainBreakStep_touches s).mono (by decide)
  | powerOn => exact fun p hp => absurd (powerOn_written p) hp
  | powerOnFillEnd => exact event_touches [.plans] (frameStart_touches s) (by decide) e
  | outputFrameEnd order => exact event_touches [.banks, .lists] (frameEnd_touches order s) (by decide) e
  | outputFrameStart => exact event_touches [.plans] (frameStart_touches s) (by decide) e
  | picWrite => cases e; exact (picWriteStep_touches s).mono (by decide)
  | completion => cases e; exact (completionStep_touches s).mono (by decide)
  | listAdvance r =>
    exact event_touches [.lists] (.after (mark_other_touches FrameEndMark.noConfusion _).any (advanceList_touches r s)) (by decide) e
  | transitionEnd o w =>
    exact event_touches [] (.after (mark_other_touches FrameEndMark.noConfusion _) (setTransition_touches _ _ _ s)) (by decide) e
  | sourceStale i => cases e; exact (silenceMove_touches i _ _ s).any
  | sourceLost i => cases e; exact (silenceMove_touches i _ _ s).any
  | surveyDone =>
    exact event_touches [] (Touches.after (l := [.survey, .surveyMark]) ((mark_touches _ _).mono (by decide))
      ((survey_touches _ s).mono (by decide))) (by decide) e
  | genlockTrack => cases e; exact (genlockMove_touches _ _ s).any
  | genlockLocked => cases e; exact (genlockMove_touches _ _ s).any
  | genlockUnlocked => cases e; exact (genlockMove_touches _ _ s).any
  -- RECALL is left, whose name Mathlib has made a keyword.
  | _ =>
    exact onRequest_touches (l := unfollowed ++ [.banks]) (by decide)
      (fun s => (recallAnswer_touches _ _ s).mono (by decide)) (fun s => (recallAll_touches _ _ s).mono (by decide)) e

end Sys2Proof.Proofs
end

section
/-! PROOFS. What the operand forms read: a reading exists exactly where the spec's range holds, and it is the field's value (R1, R6,
R177). -/

namespace Sys2Proof.Proofs

open Sys2Proof.Machine Sys2Proof.Claims Sys2Proof.Safety

/-! ### Numbers -/

theorem readIndex_eq_some {n : Nat} {b : Byte} {i : Fin n} : readIndex n b = some i ↔ b.toNat = i.val := by
  refine ⟨fun h => ?_, readIndex_of⟩
  unfold readIndex at h
  split at h <;> cases h
  rfl

theorem readRange_eq_some {lo hi v x : Nat} : readRange lo hi v = some x ↔ (lo ≤ v ∧ v ≤ hi) ∧ v = x := by
  simp [readRange]

theorem readSigned_eq_some {lo hi v x : Int} : readSigned lo hi v = some x ↔ (lo ≤ v ∧ v ≤ hi) ∧ v = x := by
  simp [readSigned]

theorem readOptional_eq_some {α : Type} {present : Bool} {v : Option α} {x : Option α} :
    readOptional present v = some x ↔ if present then ∃ y, v = some y ∧ x = some y else x = none := by
  cases present <;> simp [readOptional, eq_comm]

/-- A mask below 16 names outputs by its low bits; a greater one is out of range. -/
theorem readMask_of {b : Byte} (h : b.toNat < 16) : readMask b = some (b.setWidth 4) := by
  simp only [readMask, h, if_true, Option.some.injEq]
  exact BitVec.eq_of_toNat_eq (by simp)

theorem readMask_none {b : Byte} (h : 16 ≤ b.toNat) : readMask b = none := by simp [readMask, Nat.not_lt.2 h]

theorem readMode_none {b : Byte} (h : 2 ≤ b.toNat) : readMode b = none := by
  unfold readMode
  split
  · omega
  · omega
  · rfl

/-! ### Colours and contents -/

theorem readColour_eq (w : Word) : readColour w = colourOf w := by
  simp [readColour, colourOf, ← BitVec.toNat_inj, Nat.shiftRight_eq_div_pow]

theorem valueByte_toNat (value : Word) : (valueByte value).toNat = value.toNat / 2 ^ 24 := by
  have := value.isLt
  simp only [valueByte, BitVec.extractLsb'_toNat, Nat.shiftRight_eq_div_pow]
  omega

/-- What a kind byte and a value say a window shows (R6, R177). -/
def ContentAs (kind : Byte) (value : Word) : Content → Prop
  | .source src => kind.toNat = 0 ∧ src.val = value.toNat / 2 ^ 24
  | .list l => kind.toNat = 1 ∧ l.val = value.toNat / 2 ^ 24
  | .colour c => kind.toNat = 2 ∧ c = colourOf value

theorem readContent_eq_some {kind : Byte} {value : Word} {c : Content} :
    readContent kind value = some c ↔ ContentAs kind value c := by
  unfold readContent
  split
  all_goals rename_i hk
  · cases c <;> simp [ContentAs, hk, readIndex_eq_some, valueByte_toNat]
    exact eq_comm
  · cases c <;> simp [ContentAs, hk, readIndex_eq_some, valueByte_toNat]
    exact eq_comm
  · cases c <;> simp [ContentAs, hk, readColour_eq, eq_comm]
  · cases c <;> simp_all [ContentAs]

/-- The ranges of R6 are those in which a content is read. -/
theorem exists_contentAs {kind : Byte} {value : Word} : (∃ c, ContentAs kind value c) ↔
    (kind.toNat = 0 ∧ value.toNat / 2 ^ 24 < 16) ∨ (kind.toNat = 1 ∧ value.toNat / 2 ^ 24 < 4) ∨ kind.toNat = 2 := by
  constructor
  · rintro ⟨src | l | c, hk, hv⟩
    · exact .inl ⟨hk, hv ▸ src.isLt⟩
    · exact .inr (.inl ⟨hk, hv ▸ l.isLt⟩)
    · exact .inr (.inr hk)
  · rintro (⟨hk, hv⟩ | ⟨hk, hv⟩ | hk)
    · exact ⟨.source ⟨_, hv⟩, hk, rfl⟩
    · exact ⟨.list ⟨_, hv⟩, hk, rfl⟩
    · exact ⟨.colour _, hk, rfl⟩

/-! ### Window records -/

theorem readCrop_eq_some {raw : RawWindow} {c : Crop} : readCrop raw = some c ↔
    (raw.cx0.toNat ≤ 1919 ∧ raw.cy0.toNat ≤ 1199 ∧ (1 ≤ raw.cw.toNat ∧ raw.cw.toNat ≤ 1920)
      ∧ (1 ≤ raw.ch.toNat ∧ raw.ch.toNat ≤ 1200)) ∧ c = ⟨raw.cx0.toNat, raw.cy0.toNat, raw.cw.toNat, raw.ch.toNat⟩ := by
  simp only [readCrop, Option.bind_eq_bind, Option.bind_eq_some_iff, readRange_eq_some, Option.some.injEq]
  grind

theorem readBorder_eq_some {raw : RawWindow} {b : Option Border} : readBorder raw = some b ↔
    (raw.presence.getLsbD 1 = raw.presence.getLsbD 2 ∧ (raw.presence.getLsbD 1 = true → raw.borderWidth.toNat ≤ 15))
      ∧ b = if raw.presence.getLsbD 1 then some ⟨raw.borderWidth.toNat, colourOf raw.borderColour⟩ else none := by
  unfold readBorder
  generalize raw.presence.getLsbD 1 = width
  generalize raw.presence.getLsbD 2 = colour
  cases width <;> cases colour
  · simp [eq_comm]
  · simp
  · simp
  · simp only [Option.map_eq_some_iff, readRange_eq_some, readColour_eq, true_imp_iff, true_and, if_true]
    constructor
    · rintro ⟨_, ⟨h, rfl⟩, rfl⟩
      exact ⟨h.2, rfl⟩
    · rintro ⟨h, rfl⟩
      exact ⟨_, ⟨⟨Nat.zero_le _, h⟩, rfl⟩, rfl⟩

theorem readOpacity_eq (h : Half) : readOpacity h = if h.toNat % 512 ≤ 256 then h.toNat % 512 else 256 := by
  simp only [readOpacity, BitVec.extractLsb'_toNat, Nat.shiftRight_zero]
  split <;> omega

/-- What R6 keeps of a record, its content by `ContentAs`. -/
theorem keptAs_iff {raw : RawWindow} {r : WindowRecord} : KeptAs raw r ↔
    r.number.val = raw.number.toNat ∧ ContentAs raw.kind raw.value r.content
      ∧ r.x0 = raw.x0.toInt ∧ r.y0 = raw.y0.toInt ∧ r.width = raw.width.toNat ∧ r.height = raw.height.toNat
      ∧ r.crop = (if raw.presence.getLsbD 0 then some ⟨raw.cx0.toNat, raw.cy0.toNat, raw.cw.toNat, raw.ch.toNat⟩ else none)
      ∧ r.opacity = (if raw.opacity.toNat % 512 ≤ 256 then raw.opacity.toNat % 512 else 256)
      ∧ r.border = (if raw.presence.getLsbD 1 then some ⟨raw.borderWidth.toNat, colourOf raw.borderColour⟩ else none)
      ∧ r.fallback = (if raw.presence.getLsbD 3 then some (colourOf raw.fallback) else none) := by
  obtain ⟨number, content, x0, y0, width, height, crop, opacity, border, fallback⟩ := r
  cases content <;> exact Iff.rfl

/-- The fields read one after another, each with its range. -/
theorem readWindow_fields {raw : RawWindow} {r : WindowRecord} : readWindow raw = some r ↔
    readIndex 8 raw.number = some r.number ∧ readContent raw.kind raw.value = some r.content
      ∧ readSigned (-2048) 4095 raw.x0.toInt = some r.x0 ∧ readSigned (-2048) 4095 raw.y0.toInt = some r.y0
      ∧ readRange 1 4096 raw.width.toNat = some r.width ∧ readRange 1 4096 raw.height.toNat = some r.height
      ∧ readOptional (raw.presence.getLsbD 0) (readCrop raw) = some r.crop ∧ readBorder raw = some r.border
      ∧ r.opacity = readOpacity raw.opacity
      ∧ r.fallback = if raw.presence.getLsbD 3 then some (readColour raw.fallback) else none := by
  obtain ⟨number, content, x0, y0, width, height, crop, opacity, border, fallback⟩ := r
  simp only [readWindow, Option.bind_eq_bind, Option.bind_eq_some_iff, Option.some.injEq, WindowRecord.mk.injEq]
  constructor
  · rintro ⟨_, h1, _, h2, _, h3, _, h4, _, h5, _, h6, _, h7, _, h8, rfl, rfl, rfl, rfl, rfl, rfl, rfl, rfl, rfl, rfl⟩
    exact ⟨h1, h2, h3, h4, h5, h6, h7, h8, rfl, rfl⟩
  · rintro ⟨h1, h2, h3, h4, h5, h6, h7, h8, rfl, rfl⟩
    exact ⟨_, h1, _, h2, _, h3, _, h4, _, h5, _, h6, _, h7, _, h8, rfl, rfl, rfl, rfl, rfl, rfl, rfl, rfl, rfl, rfl⟩

/-- The crop of a record, in range where it is present. -/
theorem readOptional_crop_eq_some {raw : RawWindow} {c : Option Crop} :
    readOptional (raw.presence.getLsbD 0) (readCrop raw) = some c ↔
      (raw.presence.getLsbD 0 = true →
        raw.cx0.toNat ≤ 1919 ∧ raw.cy0.toNat ≤ 1199 ∧ (1 ≤ raw.cw.toNat ∧ raw.cw.toNat ≤ 1920)
          ∧ (1 ≤ raw.ch.toNat ∧ raw.ch.toNat ≤ 1200))
      ∧ c = if raw.presence.getLsbD 0 then some ⟨raw.cx0.toNat, raw.cy0.toNat, raw.cw.toNat, raw.ch.toNat⟩ else none := by
  rw [readOptional_eq_some]
  cases raw.presence.getLsbD 0
  · simp
  · simp only [if_true, readCrop_eq_some, true_imp_iff]
    constructor
    · rintro ⟨y, ⟨h, rfl⟩, rfl⟩
      exact ⟨h, rfl⟩
    · rintro ⟨h, rfl⟩
      exact ⟨_, ⟨h, rfl⟩, rfl⟩

/-- A WINSET record is read exactly when its fields are in range, and then as R6 says. -/
theorem readWindow_eq_some {raw : RawWindow} {r : WindowRecord} :
    readWindow raw = some r ↔ RecordInRange raw ∧ KeptAs raw r := by
  rw [readWindow_fields, keptAs_iff, readIndex_eq_some, readContent_eq_some, readSigned_eq_some, readSigned_eq_some,
    readRange_eq_some, readRange_eq_some, readOptional_crop_eq_some, readBorder_eq_some, readOpacity_eq, readColour_eq]
  constructor
  · rintro ⟨hn, hc, ⟨hx, rx⟩, ⟨hy, ry⟩, ⟨hw, rw'⟩, ⟨hh, rh⟩, ⟨hcrop, rcrop⟩, ⟨⟨hb, hbw⟩, rb⟩, ro, rf⟩
    exact ⟨⟨hn ▸ r.number.isLt, exists_contentAs.1 ⟨_, hc⟩, hx, hy, hw, hh, hcrop, hb, hbw⟩,
      hn.symm, hc, rx.symm, ry.symm, rw'.symm, rh.symm, rcrop, ro, rb, rf⟩
  · rintro ⟨⟨-, -, hx, hy, hw, hh, hcrop, hb, hbw⟩, hn, hc, rx, ry, rw', rh, rcrop, ro, rb, rf⟩
    exact ⟨hn.symm, hc, ⟨hx, rx.symm⟩, ⟨hy, ry.symm⟩, ⟨hw, rw'.symm⟩, ⟨hh, rh.symm⟩, ⟨hcrop, rcrop⟩, ⟨⟨hb, hbw⟩, rb⟩, ro, rf⟩

/-- A record in range is kept. -/
theorem exists_readWindow {raw : RawWindow} (h : RecordInRange raw) : ∃ r, readWindow raw = some r := by
  obtain ⟨content, hc⟩ := exists_contentAs.2 h.2.1
  refine ⟨⟨⟨_, h.1⟩, content, _, _, _, _, _, _, _, _⟩, readWindow_eq_some.2 ⟨h, keptAs_iff.2 ⟨rfl, hc, rfl, rfl, rfl, rfl, rfl, rfl, rfl, rfl⟩⟩⟩

/-- A record that is read is in the ranges of R1. -/
theorem readWindow_legal {raw : RawWindow} {r : WindowRecord} (h : readWindow raw = some r) : RecordLegal r := by
  obtain ⟨⟨-, -, hx, hy, hw, hh, hcrop, -, hbw⟩, hkept⟩ := readWindow_eq_some.1 h
  obtain ⟨-, -, rx, ry, rw', rh, rcrop, ro, rb, -⟩ := keptAs_iff.1 hkept
  refine ⟨⟨rx ▸ hx.1, rx ▸ hx.2, ry ▸ hy.1, ry ▸ hy.2⟩, ⟨rw' ▸ hw.1, rw' ▸ hw.2, rh ▸ hh.1, rh ▸ hh.2⟩, ?_, ?_, ?_⟩
  · rw [rcrop]
    intro c hc
    split at hc
    · cases hc
      exact ⟨(hcrop ‹_›).1, (hcrop ‹_›).2.1, (hcrop ‹_›).2.2.1.1, (hcrop ‹_›).2.2.1.2, (hcrop ‹_›).2.2.2⟩
    · cases hc
  · rw [ro]
    split <;> omega
  · rw [rb]
    intro b hb
    split at hb
    · cases hb
      exact hbw ‹_›
    · cases hb

end Sys2Proof.Proofs
end

section
/-! PROOFS. The window lists, the rotation lists and frame memory keep their forms (R1, R2, R102, R43). -/

namespace Sys2Proof.Proofs

open Sys2Proof.Machine Sys2Proof.Claims Sys2Proof.Safety

variable {l : List Piece} {s t : State}

/-! ### Window lists -/

theorem windowListOk_iff {x : List WindowRecord} : windowListOk x = true ↔ WindowListLegal x := decide_eq_true_iff

theorem windowListOk_nil : windowListOk [] = true := by decide

theorem replaceWindow_numbers (x : List WindowRecord) (r : WindowRecord) :
    (replaceWindow x r).map WindowRecord.number = x.map WindowRecord.number := by
  simp only [replaceWindow, List.map_map]
  refine List.map_congr_left fun y _ => ?_
  simp only [Function.comp]
  split
  · exact Eq.symm ‹_›
  · rfl

theorem replaceWindow_ok {x : List WindowRecord} {r : WindowRecord} (h : windowListOk x = true) (hr : RecordLegal r) :
    windowListOk (replaceWindow x r) = true := by
  obtain ⟨hlen, hnum, hrec⟩ := windowListOk_iff.1 h
  refine windowListOk_iff.2 ⟨by simpa [replaceWindow] using hlen, by rwa [replaceWindow_numbers], ?_⟩
  intro y hy
  obtain ⟨z, hz, rfl⟩ := List.mem_map.1 hy
  split
  · exact hr
  · exact hrec z hz

/-- A window list is legal in any order. -/
theorem windowListOk_perm {x y : List WindowRecord} (p : x.Perm y) (h : windowListOk x = true) : windowListOk y = true := by
  obtain ⟨hlen, hnum, hrec⟩ := windowListOk_iff.1 h
  exact windowListOk_iff.2 ⟨p.length_eq ▸ hlen, (p.map _).nodup_iff.1 hnum, fun r hr => hrec r (p.mem_iff.2 hr)⟩

theorem cons_ok {x : List WindowRecord} {r : WindowRecord} (h : windowListOk x = true) (hr : RecordLegal r)
    (hroom : x.length < 8) (hn : ∀ y ∈ x, y.number ≠ r.number) : windowListOk (r :: x) = true := by
  obtain ⟨-, hnum, hrec⟩ := windowListOk_iff.1 h
  refine windowListOk_iff.2 ⟨hroom, ?_, ?_⟩
  · simpa [hnum] using hn
  · simpa using ⟨hr, hrec⟩

theorem dropWindow_ok {x : List WindowRecord} (h : windowListOk x = true) (w : Fin 8) : windowListOk (dropWindow x w) = true := by
  obtain ⟨hlen, hnum, hrec⟩ := windowListOk_iff.1 h
  exact windowListOk_iff.2 ⟨(List.length_filter_le _ _).trans hlen, hnum.sublist (List.filter_sublist.map _),
    fun r hr => hrec r (List.mem_of_mem_filter hr)⟩

theorem writeContent_ok {x : List WindowRecord} (h : windowListOk x = true) (w : Fin 8) (c : Content) :
    windowListOk (writeContent x w c) = true := by
  obtain ⟨hlen, hnum, hrec⟩ := windowListOk_iff.1 h
  refine windowListOk_iff.2 ⟨by simpa [writeContent] using hlen, by rwa [writeContent_numbers], ?_⟩
  intro y hy
  obtain ⟨z, hz, rfl⟩ := List.mem_map.1 hy
  split
  · exact hrec z hz
  · exact hrec z hz

theorem findWindow_some {x : List WindowRecord} {w : Fin 8} {r : WindowRecord} (h : findWindow x w = some r) :
    r ∈ x ∧ r.number = w := ⟨List.mem_of_find?_eq_some h, by simpa using List.find?_some h⟩

/-- Taking a record out makes room. -/
theorem dropWindow_length_lt {x : List WindowRecord} {w : Fin 8} {r : WindowRecord} (h : findWindow x w = some r) :
    (dropWindow x w).length < x.length := by
  obtain ⟨hmem, hnum⟩ := findWindow_some h
  exact List.length_filter_lt_length_iff_exists.2 ⟨r, hmem, by simpa using hnum⟩

theorem insertWindow_perm (x : List WindowRecord) (p : Nat) (r : WindowRecord) : (r :: x).Perm (insertWindow x p r) := by
  conv_lhs => rw [← List.take_append_drop p x]
  exact List.perm_middle.symm

/-- Moving a record within its list (R9). -/
theorem moveWindow_ok {x : List WindowRecord} {w : Fin 8} {r : WindowRecord} (p : Nat) (h : windowListOk x = true)
    (hf : findWindow x w = some r) : windowListOk (insertWindow (dropWindow x w) p r) = true := by
  obtain ⟨hlen, -, hrec⟩ := windowListOk_iff.1 h
  obtain ⟨hmem, hnum⟩ := findWindow_some hf
  refine windowListOk_perm (insertWindow_perm _ p r) (cons_ok (dropWindow_ok h w) (hrec r hmem) ?_ ?_)
  · exact (dropWindow_length_lt hf).trans_le hlen
  · simp [dropWindow, hnum]

/-! ### The layout of an output -/

/-- Both banks of an output, and its presets, obey R1 and R2. -/
abbrev OutputLegal (out : Output) : Prop :=
  windowListOk out.active = true ∧ windowListOk out.pending = true ∧ ∀ n : Fin 8, ∀ x ∈ out.preset n, windowListOk x = true

/-- What touches neither a bank nor a preset keeps the layout legal. -/
theorem Touches.layout (h : Touches l s t) (hb : Piece.banks ∉ l) (hp : Piece.presets ∉ l) (hs : LayoutLegal s) : LayoutLegal t := by
  intro o
  obtain ⟨ha, hpend, hpre⟩ := hs o
  obtain ⟨ea, ep⟩ := h .banks hb o
  have es : (t.output o).preset = (s.output o).preset := by funext n; simp only [Output.preset, h .presets hp o]
  rw [ea, ep, es]
  exact ⟨ha, hpend, hpre⟩

theorem setOutput_layout {o : Fin 4} {x : Output} (hs : LayoutLegal s) (hx : OutputLegal x) : LayoutLegal (s.setOutput o x) := by
  intro o'
  simp only [State.setOutput_output]
  split
  · exact hx
  · exact hs o'

theorem editPending_layout {o : Fin 4} {x : List WindowRecord} (hs : LayoutLegal s) (hx : windowListOk x = true) :
    LayoutLegal (editPending o x s) := setOutput_layout hs ⟨(hs o).1, hx, (hs o).2.2⟩

theorem placeWindow_layout {r : WindowRecord} (o : Fin 4) (hs : LayoutLegal s) (hr : RecordLegal r) :
    LayoutLegal (placeWindow o r s).state := by
  have hok := (hs o).2.1
  unfold placeWindow
  simp only
  split
  · exact editPending_layout hs (replaceWindow_ok hok hr)
  · rename_i hnone
    split
    · exact hs
    · rename_i hroom
      refine editPending_layout hs (windowListOk_perm (List.perm_append_singleton r _).symm (cons_ok hok hr ?_ ?_))
      · simpa [Config.listRoom] using hroom
      · exact findWindow_none.1 (by simpa using hnone)

theorem winsetAnswer_layout (output : Byte) (raw : RawWindow) (hs : LayoutLegal s) : LayoutLegal (winsetAnswer output raw s).state := by
  unfold winsetAnswer
  split
  · split
    · exact hs
    · split
      · exact hs
      · exact placeWindow_layout _ hs (readWindow_legal ‹_›)
  · exact hs

theorem windropAnswer_layout (output window : Byte) (hs : LayoutLegal s) : LayoutLegal (windropAnswer output window s).state := by
  unfold windropAnswer
  split
  · split
    · exact hs
    · split
      · exact hs
      · exact editPending_layout hs (dropWindow_ok (hs _).2.1 _)
  · exact hs

theorem winmoveAnswer_layout (output window target : Byte) (hs : LayoutLegal s) :
    LayoutLegal (winmoveAnswer output window target s).state := by
  unfold winmoveAnswer
  split
  · split
    · exact hs
    · split
      · exact hs
      · exact editPending_layout hs (moveWindow_ok _ (hs _).2.1 ‹_›)
  · exact hs

theorem discardAnswer_layout (output : Byte) (hs : LayoutLegal s) : LayoutLegal (discardAnswer output s).state := by
  unfold discardAnswer
  split
  · exact hs
  · split
    · exact hs
    · exact setOutput_layout hs ⟨(hs _).1, (hs _).1, (hs _).2.2⟩

theorem presaveAnswer_layout (output preset : Byte) (hs : LayoutLegal s) : LayoutLegal (presaveAnswer output preset s).state := by
  unfold presaveAnswer
  split
  · rename_i o n _ _
    refine setOutput_layout hs ⟨(hs o).1, (hs o).2.1, fun m x hx => ?_⟩
    simp only [Output.preset, tget_tset] at hx
    split at hx
    · cases hx
      exact (hs o).2.1
    · exact (hs o).2.2 m x hx
  · exact hs

/-- A property that each step of a fold keeps holds at its end. -/
theorem foldl_keeps {α : Type} {P : State → Prop} {f : State → α → State} (h : ∀ s x, P s → P (f s x)) (xs : List α) {s : State}
    (hs : P s) : P (xs.foldl f s) := by
  induction xs generalizing s with
  | nil => exact hs
  | cons x xs ih => exact ih (h s x hs)

theorem recallInto_layout (n : Fin 8) (o : Fin 4) (hs : LayoutLegal s) : LayoutLegal (recallInto n o s) := by
  unfold recallInto
  split
  · exact hs
  · rename_i x hx
    exact (raiseIf_touches _ _ _).layout (by decide) (by decide)
      (setOutput_layout hs ⟨(hs o).1, (hs o).2.2 n x hx, (hs o).2.2⟩)

theorem forOutputs_recall_layout (mask : BitVec 4) (n : Fin 8) (hs : LayoutLegal s) :
    LayoutLegal (forOutputs mask (recallInto n) s) := foldl_keeps (fun _ o h => recallInto_layout n o h) _ hs

theorem recallAnswer_layout (mask preset : Byte) (hs : LayoutLegal s) : LayoutLegal (recallAnswer mask preset s).state := by
  unfold recallAnswer
  split
  · split
    · exact hs
    · split
      · exact hs
      · exact forOutputs_recall_layout _ _ hs
  · exact hs

theorem recallAll_layout (mask preset : Byte) (hs : LayoutLegal s) : LayoutLegal (recallAll mask preset s) := by
  unfold recallAll
  split
  · exact forOutputs_recall_layout _ _ hs
  · exact hs

theorem contentWrite_layout (o : Fin 4) (w : Fin 8) (c : Content) (hs : LayoutLegal s) : LayoutLegal (contentWrite o w c s) :=
  setOutput_layout hs ⟨writeContent_ok (hs o).1 w c, writeContent_ok (hs o).2.1 w c, (hs o).2.2⟩

theorem takeAnswer_layout (output window kind : Byte) (value : Word) (style duration : Byte) (hs : LayoutLegal s) :
    LayoutLegal (takeAnswer output window kind value style duration s).state := by
  unfold takeAnswer
  split
  · split
    · exact hs
    · split
      · exact hs
      · refine (setTransition_touches _ _ _ _).layout (by decide) (by decide) ?_
        exact (rearm_touches _ _ _ _ _).layout (by decide) (by decide) (contentWrite_layout _ _ _ hs)
  · exact hs

theorem takeAction_layout (a : CueAction) (hs : LayoutLegal s) : LayoutLegal (takeAction a s) := by
  cases a with
  | mode m mask => exact (forOutputs_touches (setMode_touches m) s).layout (by decide) (by decide) hs
  | _ => exact forOutputs_recall_layout _ _ hs

theorem evaluateCue_layout (c : Clock) (i : Fin 16) (hs : LayoutLegal s) : LayoutLegal (evaluateCue c s i) := by
  unfold evaluateCue
  split
  · exact hs
  · refine (setCue_touches _ _ _).layout (by decide) (by decide) ?_
    split
    · exact (raise_touches _ _).layout (by decide) (by decide) (takeAction_layout _ hs)
    · exact hs

theorem takeTimebase_layout (weekday hour minute second frame : Byte) (hs : LayoutLegal s) :
    LayoutLegal (takeTimebase weekday hour minute second frame s) := by
  unfold takeTimebase
  split
  · exact hs
  · exact foldl_keeps (fun _ i h => evaluateCue_layout _ i h) _ ((clock_touches _ s).layout (by decide) (by decide) hs)

theorem swapBanks_legal {out : Output} (h : OutputLegal out) : OutputLegal (swapBanks out) := ⟨h.2.1, h.2.1, h.2.2⟩

theorem swapOutput_layout (o : Fin 4) (hs : LayoutLegal s) : LayoutLegal (swapOutput o s) := by
  unfold swapOutput
  split
  · have swapped : LayoutLegal ((List.finRange 8).foldl (swapWindow o) s) :=
      (Touches.foldl (swapWindow_touches o) _ s).layout (by decide) (by decide) hs
    exact setOutput_layout swapped (swapBanks_legal (swapped o))
  · exact hs

theorem framePart_layout (x : FrameEndPart) (hs : LayoutLegal s) : LayoutLegal (framePart x s) := by
  by_cases hx : x = .swap
  · subst hx
    exact foldl_keeps (fun _ o h => swapOutput_layout o h) _ hs
  · have quiet : Piece.banks ∉ partPieces x ∧ Piece.presets ∉ partPieces x := by revert hx; cases x <;> decide
    exact (framePart_touches x s).layout quiet.1 quiet.2 hs

theorem frameEnd_layout (order : List FrameEndPart) (hs : LayoutLegal s) : LayoutLegal (frameEnd order s) :=
  (closeFrame_touches _).layout (by decide) (by decide) (foldl_keeps (fun _ x h => framePart_layout x h) _ hs)

theorem reset_layout : LayoutLegal State.reset := by decide +kernel

theorem restarted_layout (hs : LayoutLegal s) : LayoutLegal (restarted s) := by
  intro o
  simp only [restarted, State.output, tget_tmap]
  exact ⟨windowListOk_nil, windowListOk_nil, (hs o).2.2⟩

/-! ### Delivery -/

/-- A property that the trunk does not bear on, and that `act` keeps, holds after a cell. -/
theorem onCell_keeps {P : State → Prop} {act : State → State} (hP : ∀ s t, Touches [.trunk] s t → P s → P t)
    (ha : ∀ s, P s → P (act s)) (e : onCell act s = .next t) (hs : P s) : P t := by
  cases e
  split
  · exact ha _ (hP _ _ (goodCell_touches s) hs)
  · exact hP _ _ (noCell_touches s) hs

theorem onForwarded_keeps {P : State → Prop} {act : State → State} (hP : ∀ s t, Touches [.trunk] s t → P s → P t)
    (ha : ∀ s, P s → P (act s)) (e : onForwarded act s = .next t) (hs : P s) : P t :=
  onCell_keeps hP (fun s h => hP _ _ (send_touches _ _) (ha s h)) e hs

theorem onRequest_keeps {P : State → Prop} {q : ReqHead} {code : Byte} {own : State → Answer} {all : State → State}
    (hP : ∀ s t, Touches [.trunk] s t → P s → P t) (ho : ∀ s, P s → P (own s).state) (ha : ∀ s, P s → P (all s))
    (e : onRequest q code own all s = .next t) (hs : P s) : P t := by
  refine onCell_keeps hP (fun s h => ?_) e hs
  split
  · exact hP _ _ (send_touches _ _) (ha s h)
  · split
    · exact hP _ _ (send_touches _ _) (ho s h)
    · exact hP _ _ (send_touches _ _) h

theorem trunk_layout (s t : State) (h : Touches [.trunk] s t) (hs : LayoutLegal s) : LayoutLegal t :=
  h.layout (by decide) (by decide) hs

/-- An addressed request that keeps the layout legal. -/
theorem onAddressed_layout {q : ReqHead} {code : Byte} {own : State → Answer} (ho : ∀ s, LayoutLegal s → LayoutLegal (own s).state)
    (e : onAddressed q code own s = .next t) (hs : LayoutLegal s) : LayoutLegal t :=
  onRequest_keeps trunk_layout ho (fun _ h => h) e hs

/-- Every command keeps the window lists legal. -/
theorem exec_layout {c : Instr} (e : exec c s = .next t) (hs : LayoutLegal s) : LayoutLegal t := by
  cases c with
  | winset => exact onAddressed_layout (fun _ h => winsetAnswer_layout _ _ h) e hs
  | windrop => exact onAddressed_layout (fun _ h => windropAnswer_layout _ _ h) e hs
  | winmove => exact onAddressed_layout (fun _ h => winmoveAnswer_layout _ _ _ h) e hs
  | discard => exact onAddressed_layout (fun _ h => discardAnswer_layout _ h) e hs
  | presave => exact onAddressed_layout (fun _ h => presaveAnswer_layout _ _ h) e hs
  | take => exact onAddressed_layout (fun _ h => takeAnswer_layout _ _ _ _ _ _ h) e hs
  | timebase => exact onForwarded_keeps trunk_layout (fun _ h => takeTimebase_layout _ _ _ _ _ h) e hs
  | outputFrameEnd =>
    cases e
    split
    · exact frameEnd_layout _ hs
    · exact hs
  | restart => exact onRequest_keeps trunk_layout (fun _ h => restarted_layout h) (fun _ h => restarted_layout h) e hs
  | powerOn => cases e; exact reset_layout
  -- No piece of the layout is written by these.
  | ident | status | clear | raster | outmode | silence | subscribe | release | winread | commit | freezeNow | freezeAt | thaw
  | rotset | cueset | cuedrop | genlock | survey | surveyread | unknownRequest | frameOpen | pic | frameClose | enumCell
  | forwardCell | headerError | huntHeaderCheck | syncReached | linkHunt | lossOfSignal | signalReceived | breakStart | breakEnd
  | chainBreak | powerOnFillEnd | outputFrameStart | picWrite | completion | listAdvance | transitionEnd | sourceStale
  | sourceLost | surveyDone | genlockTrack | genlockLocked | genlockUnlocked =>
    exact (exec_touches e).layout (of_decide_eq_true rfl) (of_decide_eq_true rfl) hs
  -- RECALL is left.
  | _ => exact onRequest_keeps trunk_layout (fun _ h => recallAnswer_layout _ _ h) (fun _ h => recallAll_layout _ _ h) e hs

/-! ### Rotation lists -/

theorem Touches.rotation (h : Touches l s t) (hl : Piece.lists ∉ l) (hs : ListsLegal s) : ListsLegal t := by
  have same : t.lists = s.lists := h .lists hl
  intro r
  rw [State.list, same]
  exact hs r

theorem setList_rotation {r : Fin 4} {x : RotationList} (hs : ListsLegal s) (hx : RotationLegal x) : ListsLegal (s.setList r x) := by
  intro r'
  simp only [State.setList_list]
  split
  · exact hx
  · exact hs r'

theorem readSources_length {bytes : List Byte} {x : List (Fin 16)} (h : readSources bytes = some x) : x.length = bytes.length := by
  induction bytes generalizing x with
  | nil => cases h; rfl
  | cons b rest ih =>
    simp only [readSources, Option.bind_eq_bind, Option.bind_eq_some_iff, Option.some.injEq] at h
    obtain ⟨src, -, srcs, hs, rfl⟩ := h
    simp [ih hs]

/-- The list a ROTSET stages has 1 to 8 entries, and its dwell and duration in range (R104). -/
theorem readStagedList_legal {count : Byte} {entries : List Byte} {dwell : Half} {style duration : Byte} {st : StagedList}
    (h : readStagedList count entries dwell style duration = some st) : StagedLegal st := by
  simp only [readStagedList, Option.bind_eq_bind, Option.bind_eq_some_iff, Option.some.injEq, readRange_eq_some] at h
  obtain ⟨n, ⟨⟨hlo, hhi⟩, hn⟩, srcs, hsrcs, style', -, rfl⟩ := h
  have hlen : srcs.length = n := by
    rw [readSources_length hsrcs]
    simp only [padTo, List.length_take, List.length_append, List.length_replicate]
    omega
  have hd := dwell.isLt
  have hdur := duration.isLt
  refine ⟨?_, ?_, ?_, ?_, ?_⟩ <;> simp only [hlen] <;> omega

theorem rotsetAnswer_rotation (list count : Byte) (entries : List Byte) (dwell : Half) (style duration : Byte) (hs : ListsLegal s) :
    ListsLegal (rotsetAnswer list count entries dwell style duration s).state := by
  unfold rotsetAnswer
  split
  · rename_i r st _ hst
    obtain ⟨h1, h2, h3, h4, h5, h6, -⟩ := hs r
    refine setList_rotation hs ⟨h1, h2, h3, h4, h5, h6, ?_⟩
    rintro _ ⟨⟩
    exact readStagedList_legal hst
  · exact hs

/-- An advance moves to a position of the list. -/
theorem nextLive_lt {x : RotationList} {p : Nat} {src : Fin 16} (h : nextLive s x = some (p, src)) : p < x.entries.length := by
  obtain ⟨k, -, hk⟩ := List.exists_of_findSome?_eq_some h
  split at hk
  · rename_i src' hsrc
    split at hk <;> cases hk
    exact (List.getElem?_eq_some_iff.1 hsrc).1
  · cases hk

/-- The advance of a list that holds entries leaves it in its form. -/
theorem advanceList_rotation {r : Fin 4} (hs : ListsLegal s) (hne : (s.list r).entries ≠ []) : ListsLegal (advanceList r s) := by
  obtain ⟨h1, h2, h3, h4, h5, h6, h7⟩ := hs r
  simp only [advanceList]
  split
  · exact setList_rotation hs ⟨h1, h2, h3, h4, fun h => absurd h hne, fun _ => ⟨(h6 hne).1, h2, Nat.le_refl _⟩, h7⟩
  · rename_i p src hnext
    have hlt := nextLive_lt hnext
    exact setList_rotation ((askStarts_touches _ _ _ _ s).rotation (by decide) hs)
      ⟨h1, h2, h3, h4, fun h => absurd h hne, fun _ => ⟨hlt, h2, Nat.le_refl _⟩, h7⟩

/-- A staged list that is applied is a rotation list at its first entry (R106). -/
theorem applied_legal {st : StagedList} (h : StagedLegal st) :
    RotationLegal ⟨st.entries, st.dwell, st.style, st.duration, 0, st.dwell, none⟩ := by
  obtain ⟨h1, h2, h3, h4, h5⟩ := h
  refine ⟨h2, h3, h4, h5, fun hnil => ?_, fun _ => ⟨h1, h3, Nat.le_refl _⟩, fun _ hm => by cases hm⟩
  simp only at hnil
  rw [hnil] at h1
  exact absurd h1 (by decide)

theorem applyStaged_rotation {r : Fin 4} {st : StagedList} (hs : ListsLegal s) (hst : StagedLegal st) :
    ListsLegal (applyStaged r st s) := by
  unfold applyStaged
  split
  · exact setList_rotation hs (applied_legal hst)
  · exact setList_rotation ((askStarts_touches _ _ _ _ s).rotation (by decide) hs) (applied_legal hst)

theorem listFrameEnd_rotation (r : Fin 4) (hs : ListsLegal s) : ListsLegal (listFrameEnd r s) := by
  obtain ⟨h1, h2, h3, h4, h5, h6, h7⟩ := hs r
  simp only [listFrameEnd]
  split
  · exact applyStaged_rotation hs (h7 _ ‹_›)
  · split
    · exact hs
    · rename_i hne
      split
      · exact advanceList_rotation hs hne
      · rename_i hcount
        obtain ⟨hpos, hlo, hhi⟩ := h6 hne
        exact setList_rotation hs ⟨h1, h2, h3, h4, fun h => absurd h hne, fun _ => ⟨hpos, by simp only; omega, by simp only; omega⟩, h7⟩

theorem listPart_rotation (hs : ListsLegal s) : ListsLegal (listPart s) := by
  refine foldl_keeps (fun s r h => ?_) _ hs
  split
  · exact h
  · exact listFrameEnd_rotation r h

theorem framePart_rotation (x : FrameEndPart) (hs : ListsLegal s) : ListsLegal (framePart x s) := by
  by_cases hx : x = .lists
  · subst hx
    exact listPart_rotation hs
  · exact (framePart_touches x s).rotation (by revert hx; cases x <;> decide) hs

theorem frameEnd_rotation (order : List FrameEndPart) (hs : ListsLegal s) : ListsLegal (frameEnd order s) :=
  (closeFrame_touches _).rotation (by decide) (foldl_keeps (fun _ x h => framePart_rotation x h) _ hs)

theorem reset_rotation : ListsLegal State.reset := by decide

theorem restarted_rotation (s : State) : ListsLegal (restarted s) := reset_rotation

theorem trunk_rotation (s t : State) (h : Touches [.trunk] s t) (hs : ListsLegal s) : ListsLegal t := h.rotation (by decide) hs

/-- A list that is due holds entries. -/
theorem listDue_entries {r : Fin 4} (h : listDue r s = true) : (s.list r).entries ≠ [] := by
  simp only [listDue, Bool.and_eq_true, decide_eq_true_eq] at h
  exact h.1.2

/-- Every command keeps the rotation lists legal. -/
theorem exec_rotation {c : Instr} (e : exec c s = .next t) (hs : ListsLegal s) : ListsLegal t := by
  cases c
  case rotset =>
    exact onRequest_keeps trunk_rotation (fun _ h => rotsetAnswer_rotation _ _ _ _ _ _ h)
      (fun _ h => rotsetAnswer_rotation _ _ _ _ _ _ h) e hs
  case listAdvance r =>
    cases e
    split
    · exact (mark_touches _ _).rotation (by decide) (advanceList_rotation hs (listDue_entries ‹_›))
    · exact hs
  case outputFrameEnd =>
    cases e
    split
    · exact frameEnd_rotation _ hs
    · exact hs
  case restart => exact onRequest_keeps trunk_rotation (fun s _ => restarted_rotation s) (fun s _ => restarted_rotation s) e hs
  case powerOn => cases e; exact reset_rotation
  all_goals exact (exec_touches e).rotation (of_decide_eq_true rfl) hs

/-! ### Frame memory -/

theorem picWriteStep_memory (hs : MemoryLegal s) : MemoryLegal (picWriteStep s) := by
  have served : MemoryLegal (serveFetches s) := by
    unfold MemoryLegal
    rw [serveFetches_touches s .memory (by decide)]
    exact hs
  unfold picWriteStep
  simp only
  split
  · exact memWriteRun_wf _ _ _ _ _ served
  · exact hs

/-- Every command keeps frame memory in its canonical form. -/
theorem exec_memory {c : Instr} (e : exec c s = .next t) (hs : MemoryLegal s) : MemoryLegal t := by
  cases c
  case picWrite => cases e; exact picWriteStep_memory hs
  case powerOn => cases e; rfl
  all_goals
    unfold MemoryLegal
    rw [exec_touches e .memory (of_decide_eq_true rfl)]
    exact hs

/-! ### The statements -/

/-- Settles O57: each of the three forms is kept by each command, and a tick touches none of them. -/
theorem stepsKeepTheTables : Obligations.StepsKeepTheTables := by
  rintro s t ⟨hl, hr, hm⟩ e
  unfold step at e
  split at e
  · cases e
    have tick := idleTick_touches s
    refine ⟨tick.layout (by decide) (by decide) hl, tick.rotation (by decide) hr, ?_⟩
    unfold MemoryLegal
    rw [tick .memory (by decide)]
    exact hm
  · exact ⟨exec_layout e hl, exec_rotation e hr, exec_memory e hm⟩

/-! ### Writers -/

theorem conditions_unwritten {c : Instr} (hp : c ≠ .powerOn) (hr : isRestart c = false) (hc : isClear c = false) :
    Piece.conditions ∉ unfollowed ++ written c := by
  cases c
  case powerOn => exact absurd rfl hp
  case restart => cases hr
  case clear => cases hc
  all_goals exact of_decide_eq_true rfl

theorem presets_unwritten {c : Instr} (hp : c ≠ .powerOn) (hs : isPresave c = false) :
    Piece.presets ∉ unfollowed ++ written c := by
  cases c
  case powerOn => exact absurd rfl hp
  case presave => cases hs
  all_goals exact of_decide_eq_true rfl

theorem address_unwritten {c : Instr} (hp : c ≠ .powerOn) (he : isEnum c = false) (hb : c ≠ .chainBreak) :
    Piece.address ∉ unfollowed ++ written c := by
  cases c
  case powerOn => exact absurd rfl hp
  case enumCell => cases he
  case chainBreak => exact absurd rfl hb
  all_goals exact of_decide_eq_true rfl

theorem memory_unwritten {c : Instr} (hp : c ≠ .powerOn) (hw : c ≠ .picWrite) : Piece.memory ∉ unfollowed ++ written c := by
  cases c
  case powerOn => exact absurd rfl hp
  case picWrite => exact absurd rfl hw
  all_goals exact of_decide_eq_true rfl

theorem plans_unwritten {c : Instr} (hp : c ≠ .powerOn) (hr : isRestart c = false) (hs : c ≠ .outputFrameStart)
    (hf : c ≠ .powerOnFillEnd) : Piece.plans ∉ unfollowed ++ written c := by
  cases c
  case powerOn => exact absurd rfl hp
  case restart => cases hr
  case outputFrameStart => exact absurd rfl hs
  case powerOnFillEnd => exact absurd rfl hf
  all_goals exact of_decide_eq_true rfl

theorem clock_unwritten {c : Instr} (hp : c ≠ .powerOn) (hr : isRestart c = false) (ht : isTimebase c = false) :
    Piece.clock ∉ unfollowed ++ written c := by
  cases c
  case powerOn => exact absurd rfl hp
  case restart => cases hr
  case timebase => cases ht
  all_goals exact of_decide_eq_true rfl

theorem limits_unwritten {c : Instr} (hp : c ≠ .powerOn) (hr : isRestart c = false) (hs : isSilence c = false) :
    Piece.limits ∉ unfollowed ++ written c := by
  cases c
  case powerOn => exact absurd rfl hp
  case restart => cases hr
  case silence => cases hs
  all_goals exact of_decide_eq_true rfl

/-- Settles O55: a command changes only the pieces it may write. -/
theorem stateHasItsWriters : Obligations.StateHasItsWriters := by
  intro c s t e hp
  have kept := exec_touches e
  have presets : isPresave c = false → ∀ o n, (t.output o).preset n = (s.output o).preset n := fun hs o n => by
    simp only [Output.preset, kept .presets (presets_unwritten hp hs) o]
  exact ⟨fun hr hc => kept .conditions (conditions_unwritten hp hr hc), presets,
    fun he hb => kept .address (address_unwritten hp he hb), fun hw => kept .memory (memory_unwritten hp hw),
    fun hr hs hf => kept .plans (plans_unwritten hp hr hs hf), fun hr ht => kept .clock (clock_unwritten hp hr ht),
    fun hr hs => kept .limits (limits_unwritten hp hr hs)⟩

end Sys2Proof.Proofs
end

section
/-! PROOFS. Requests that this part hears (R141, R142): what is answered, from the answer of the unit. -/

namespace Sys2Proof.Proofs

open Sys2Proof.Machine Sys2Proof.Claims Sys2Proof.Safety

variable {s : State} {q : ReqHead} {code : Byte} {own : State → Answer} {all : State → State}

/-- What a unit answers in state `u`, on its way downstream. -/
theorem sent_eq_replied (u : State) (rc : ReplyCode) (result : List Byte) :
    (⟨u.goodCell, rc, result, none⟩ : Answer).sent q code = replied q code rc result u := by
  have attention : u.attention = decide (u.conditions ≠ 0#12) := by
    rw [State.attention, bne, Bool.eq_iff_iff]
    simp
  simp only [Answer.sent, Answer.reply, replied, Option.getD_none, padTo, ← attention]
  rfl

/-- An addressed request is answered with its unit's answer. -/
theorem onRequest_hears {u : State} {rc : ReplyCode} {result : List Byte} (h : Hears q s)
    (ha : own s.goodCell = ⟨u.goodCell, rc, result, none⟩) : onRequest q code own all s = .next (replied q code rc result u) := by
  obtain ⟨hlink, haddress, htarget⟩ := h
  rw [onRequest_own hlink haddress htarget, ha, sent_eq_replied]

/-- An addressed request that its unit refuses. -/
theorem onRequest_refused {rc : ReplyCode} (h : Hears q s) (ha : own s.goodCell = refuse s.goodCell rc) :
    onRequest q code own all s = .next (replied q code rc [] s) := onRequest_hears h ha

/-- A request that may be broadcast, addressed to this part. -/
theorem onEither_hears {u : State} {rc : ReplyCode} {result : List Byte} (h : Hears q s)
    (ha : own s.goodCell = ⟨u.goodCell, rc, result, none⟩) : onEither q code own s = .next (replied q code rc result u) :=
  onRequest_hears h ha

theorem onEither_refused {rc : ReplyCode} (h : Hears q s) (ha : own s.goodCell = refuse s.goodCell rc) :
    onEither q code own s = .next (replied q code rc [] s) := onRequest_hears h ha

/-- A broadcast request is passed on, with what it does. -/
theorem onRequest_heard {u : State} (h : Broadcast q s) (ha : all s.goodCell = u.goodCell) :
    onRequest q code own all s = .next (passedOn u) := by
  rw [onRequest_broadcast h.1 h.2, ha]
  rfl

/-- A broadcast that does what the addressed request would (R164). -/
theorem onEither_heard {u : State} {rc : ReplyCode} {result : List Byte} (h : Broadcast q s)
    (ha : own s.goodCell = ⟨u.goodCell, rc, result, none⟩) : onEither q code own s = .next (passedOn u) :=
  onRequest_heard h (congrArg Answer.state ha)

/-- A broadcast that is refused does nothing. -/
theorem onEither_ignored {rc : ReplyCode} (h : Broadcast q s) (ha : own s.goodCell = refuse s.goodCell rc) :
    onEither q code own s = .next (passedOn s) := onRequest_heard h (congrArg Answer.state ha)

end Sys2Proof.Proofs
end

section
/-! PROOFS. The requests to the layout unit (spec 1). -/

namespace Sys2Proof.Proofs

open Sys2Proof.Machine Sys2Proof.Claims Sys2Proof.Safety

variable {s : State}

/-! ### Lists that hold a record at a place -/

section HoldsAt

variable {x below above : List WindowRecord} {r : WindowRecord} {w : Fin 8}

theorem HoldsAt.below_ne (h : HoldsAt x below r above w) : ∀ y ∈ below, y.number ≠ w := fun y hy => h.2.2 y (by simp [hy])

theorem HoldsAt.above_ne (h : HoldsAt x below r above w) : ∀ y ∈ above, y.number ≠ w := fun y hy => h.2.2 y (by simp [hy])

theorem find_of_holdsAt (h : HoldsAt x below r above w) : findWindow x w = some r := by
  obtain ⟨rfl, rfl, hne⟩ := h
  exact findWindow_append fun y hy => hne y (by simp [hy])

theorem position_of_holdsAt (h : HoldsAt x below r above w) : windowPosition x w = below.length := by
  obtain ⟨rfl, rfl, hne⟩ := h
  exact windowPosition_append fun y hy => hne y (by simp [hy])

theorem drop_of_holdsAt (h : HoldsAt x below r above w) : dropWindow x w = below ++ above := by
  obtain ⟨rfl, rfl, hne⟩ := h
  exact dropWindow_append (fun y hy => hne y (by simp [hy])) fun y hy => hne y (by simp [hy])

theorem replace_of_holdsAt {r' : WindowRecord} (h : HoldsAt x below r above r'.number) :
    replaceWindow x r' = below ++ r' :: above := by
  obtain ⟨rfl, hn, hne⟩ := h
  exact replaceWindow_append hn (fun y hy => hne y (by simp [hy])) fun y hy => hne y (by simp [hy])

theorem write_of_holdsAt (h : HoldsAt x below r above w) (c : Content) :
    writeContent x w c = below ++ { r with content := c } :: above := by
  obtain ⟨rfl, rfl, hne⟩ := h
  have same : ∀ y : List WindowRecord, (∀ z ∈ y, z.number ≠ r.number) → writeContent y r.number c = y := fun y hy =>
    (List.map_congr_left fun z hz => if_neg (hy z hz)).trans (List.map_id _)
  have hb := same below fun y hy => hne y (by simp [hy])
  have ha := same above fun y hy => hne y (by simp [hy])
  simp only [writeContent] at hb ha ⊢
  rw [List.map_append, List.map_cons, hb, ha, if_pos rfl]

end HoldsAt

/-- Inserting at a target position, or at the top of a shorter list (R9). -/
theorem insertWindow_split {x under upper : List WindowRecord} {p : Nat} (r : WindowRecord) (h : x = under ++ upper)
    (hl : under.length = if p < x.length then p else x.length) : insertWindow x p r = under ++ r :: upper := by
  subst h
  simp only [List.length_append] at hl
  unfold insertWindow
  split at hl
  · rw [← hl, List.take_left, List.drop_left]
  · have hupper : upper = [] := List.length_eq_zero_iff.1 (by omega)
    subst hupper
    rw [List.append_nil, List.take_of_length_le (by simp at *; omega), List.drop_eq_nil_of_le (by simp at *; omega)]

/-! ### WINSET -/

section Winset

variable {ob : Byte} {o : Fin 4} {raw : RawWindow} {r : WindowRecord}

theorem winset_range (h : 4 ≤ ob.toNat ∨ 8 ≤ raw.number.toNat) : winsetAnswer ob raw s = refuse s .range := by
  rcases h with h | h
  · simp [winsetAnswer, readIndex_none h]
  · simp [winsetAnswer, readIndex_none h]

/-! The checks of a WINSET that names an output and a window (R5). -/

theorem readIndex_number (hn : raw.number.toNat < 8) : readIndex 8 raw.number = some ⟨raw.number.toNat, hn⟩ := readIndex_of rfl

theorem winset_staged (ho : Names ob o) (hn : raw.number.toNat < 8) (ha : (s.output o).armed = true) :
    winsetAnswer ob raw s = refuse s .staged := by
  simp [winsetAnswer, readIndex_of ho, readIndex_number hn, ha]

theorem winset_unread (ho : Names ob o) (hn : raw.number.toNat < 8) (ha : (s.output o).armed = false)
    (hr : readWindow raw = none) : winsetAnswer ob raw s = refuse s .range := by
  simp [winsetAnswer, readIndex_of ho, readIndex_number hn, ha, hr]

theorem winset_read (ho : Names ob o) (hn : raw.number.toNat < 8) (ha : (s.output o).armed = false)
    (hr : readWindow raw = some r) : winsetAnswer ob raw s = placeWindow o r s := by
  simp [winsetAnswer, readIndex_of ho, readIndex_number hn, ha, hr]

theorem placeWindow_over {below above : List WindowRecord} {old : WindowRecord}
    (h : HoldsAt (s.output o).pending below old above r.number) : placeWindow o r s =
      ⟨edited o (below ++ r :: above) s, .done, [byteOf below.length, byteOf (s.output o).pending.length], none⟩ := by
  simp only [placeWindow, find_of_holdsAt h, replace_of_holdsAt h, position_of_holdsAt h]
  rfl

theorem placeWindow_top (h : Lacks (s.output o).pending r.number) (hroom : (s.output o).pending.length < 8) :
    placeWindow o r s = ⟨edited o ((s.output o).pending ++ [r]) s, .done,
      [byteOf (s.output o).pending.length, byteOf ((s.output o).pending.length + 1)], none⟩ := by
  simp [placeWindow, findWindow_none.2 h, Config.listRoom, Nat.not_le.2 hroom, edited, editPending]

theorem placeWindow_full (h : Lacks (s.output o).pending r.number) (hfull : 8 ≤ (s.output o).pending.length) :
    placeWindow o r s = refuse s .full := by
  simp [placeWindow, findWindow_none.2 h, Config.listRoom, hfull]

end Winset

/-- Settles O10: the checks one after another, then the three places a record can go. -/
theorem winsetPlacesTheRecord : Obligations.WinsetPlacesTheRecord := by
  intro q ob raw s hears
  refine ⟨fun h => onRequest_refused hears (winset_range h),
    fun o ho hn => ⟨fun harmed => ?_, fun harmed hrange => ?_, fun harmed hrange => ?_⟩⟩
  · exact onRequest_refused hears (winset_staged ho hn harmed)
  · have unread : readWindow raw = none := by
      rw [Option.eq_none_iff_forall_ne_some]
      exact fun r hr => hrange (readWindow_eq_some.1 hr).1
    exact onRequest_refused hears (winset_unread ho hn harmed unread)
  · obtain ⟨r, hr⟩ := exists_readWindow hrange
    have placed : winsetAnswer ob raw s.goodCell = placeWindow o r s.goodCell := winset_read ho hn harmed hr
    refine ⟨r, (readWindow_eq_some.1 hr).2, fun below old above h => ?_, fun hl hroom => ?_, fun hl hfull => ?_⟩
    · exact onRequest_hears hears (placed.trans (placeWindow_over h))
    · exact onRequest_hears hears (placed.trans (placeWindow_top hl hroom))
    · exact onRequest_refused hears (placed.trans (placeWindow_full hl hfull))

/-! ### WINDROP and WINMOVE -/

/-- Settles O11. -/
theorem windropRemovesTheRecord : Obligations.WindropRemovesTheRecord := by
  intro q ob wb s hears
  refine ⟨fun h => onRequest_refused hears ?_, fun o w ho hw => ⟨fun harmed => onRequest_refused hears ?_,
    fun harmed hl => onRequest_refused hears ?_, fun harmed below r above h => onRequest_hears hears ?_⟩⟩
  · rcases h with h | h
    · simp [windropAnswer, readIndex_none h]
    · simp [windropAnswer, readIndex_none h]
  · simp [windropAnswer, readIndex_of ho, readIndex_of hw, harmed]
  · simp [windropAnswer, readIndex_of ho, readIndex_of hw, harmed, findWindow_none.2 hl]
  · simp only [windropAnswer, readIndex_of ho, readIndex_of hw, State.goodCell_output, harmed, find_of_holdsAt h,
      drop_of_holdsAt h, List.length_append]
    rfl

/-- Settles O12. -/
theorem winmoveReordersTheList : Obligations.WinmoveReordersTheList := by
  intro q ob wb pb s hears
  refine ⟨fun h => onRequest_refused hears ?_, fun o w ho hw hp => ?_⟩
  · rcases h with h | h | h
    · simp [winmoveAnswer, readIndex_none h]
    · simp [winmoveAnswer, readIndex_none h]
    · simp [winmoveAnswer, readIndex_none h]
  · have target : readIndex 16 pb = some ⟨pb.toNat, hp⟩ := readIndex_of rfl
    refine ⟨fun harmed => onRequest_refused hears ?_, fun harmed hl => onRequest_refused hears ?_,
      fun harmed below r above h under upper hsplit hlen => onRequest_hears hears ?_⟩
    · simp [winmoveAnswer, readIndex_of ho, readIndex_of hw, target, harmed]
    · simp [winmoveAnswer, readIndex_of ho, readIndex_of hw, target, harmed, findWindow_none.2 hl]
    · rw [← List.length_append] at hlen
      have least : min pb.toNat (below ++ above).length = under.length := by rw [hlen, Nat.min_def]; split <;> split <;> omega
      simp only [winmoveAnswer, readIndex_of ho, readIndex_of hw, target, State.goodCell_output, harmed, find_of_holdsAt h,
        drop_of_holdsAt h, insertWindow_split r hsplit hlen, least]
      rfl

/-! ### WINREAD -/

theorem readBank_none {b : Byte} (h : 2 ≤ b.toNat) : readBank b = none := by
  unfold readBank
  split
  · omega
  · omega
  · rfl

/-- The bank a byte names, as its list. -/
theorem readBank_of {b : Byte} {out : Output} {x : List WindowRecord}
    (h : b.toNat = 0 ∧ x = out.active ∨ b.toNat = 1 ∧ x = out.pending) : ∃ k, readBank b = some k ∧ out.bank k = x := by
  rcases h with ⟨h, rfl⟩ | ⟨h, rfl⟩
  · exact ⟨.active, by simp [readBank, h], rfl⟩
  · exact ⟨.pending, by simp [readBank, h], rfl⟩

/-- Settles O13. -/
theorem winreadReportsTheRecord : Obligations.WinreadReportsTheRecord := by
  intro q ob wb bb s hears
  refine ⟨fun h => onRequest_refused hears ?_, fun o w x ho hw hb => ?_⟩
  · rcases h with h | h | h
    · simp [winreadAnswer, readIndex_none h]
    · simp [winreadAnswer, readIndex_none h]
    · simp [winreadAnswer, readBank_none h]
  · obtain ⟨k, hk, hx⟩ := readBank_of hb
    refine ⟨fun hl => onRequest_refused hears ?_, fun below r above h => onRequest_hears hears ?_⟩
    · simp [winreadAnswer, readIndex_of ho, readIndex_of hw, hk, hx, findWindow_none.2 hl]
    · simp only [winreadAnswer, readIndex_of ho, readIndex_of hw, hk, State.goodCell_output, hx, find_of_holdsAt h,
        position_of_holdsAt h]
      rfl

/-! ### DISCARD and PRESAVE -/

/-- Settles O15. -/
theorem discardRestoresThePendingBank : Obligations.DiscardRestoresThePendingBank := by
  intro q ob s hears
  refine ⟨fun h => onRequest_refused hears ?_, fun o ho => ⟨fun harmed => onRequest_refused hears ?_,
    fun harmed => onRequest_hears hears ?_⟩⟩
  · simp [discardAnswer, readIndex_none h]
  · simp [discardAnswer, readIndex_of ho, harmed]
  · simp only [discardAnswer, readIndex_of ho, State.goodCell_output, harmed]
    rfl

/-- Settles O17. -/
theorem presaveCopiesThePendingBank : Obligations.PresaveCopiesThePendingBank := by
  intro q ob nb s hears
  refine ⟨fun h => onRequest_refused hears ?_, fun o n ho hn => onRequest_hears hears ?_⟩
  · rcases h with h | h
    · simp [presaveAnswer, readIndex_none h]
    · simp [presaveAnswer, readIndex_none h]
  · simp only [presaveAnswer, readIndex_of ho, readIndex_of hn]
    rfl

/-! ### COMMIT and OUTMODE -/

theorem forOutputs_arm (m : BitVec 4) (s : State) : forOutputs m armOutput s = armedBy m s :=
  forOutputs_eq (fun out => { out with armed := true }) m s

theorem forOutputs_setMode (m : BitVec 4) (d : OutputMode) (s : State) : forOutputs m (setMode d) s = moded m d s :=
  forOutputs_eq (fun out => { out with mode := d }) m s

theorem maskOutputs_zero : maskOutputs 0#4 = [] := by decide

/-- The low bits of a mask byte below 16 are 0 only where the byte is. -/
theorem mask_eq_zero {b : Byte} (h : b.toNat < 16) : b.setWidth 4 = 0#4 ↔ b.toNat = 0 := by
  rw [← BitVec.toNat_inj, BitVec.toNat_setWidth, Nat.mod_eq_of_lt h]
  rfl

section Masks

variable {mb db : Byte}

theorem commit_range (h : 16 ≤ mb.toNat) : commitAnswer mb s = refuse s .range := by simp [commitAnswer, readMask_none h]

theorem commit_of (h : mb.toNat < 16) : commitAnswer mb s =
    ⟨armedBy (mb.setWidth 4) s, if mb.setWidth 4 = 0#4 then .done else .armed, [], none⟩ := by
  simp only [commitAnswer, readMask_of h, forOutputs_arm]

theorem outmode_range (h : 16 ≤ mb.toNat ∨ 2 ≤ db.toNat) : outmodeAnswer mb db s = refuse s .range := by
  rcases h with h | h
  · simp [outmodeAnswer, readMask_none h]
  · simp [outmodeAnswer, readMode_none h]

theorem outmode_of {d : OutputMode} (h : mb.toNat < 16) (hd : readMode db = some d) :
    outmodeAnswer mb db s = ⟨moded (mb.setWidth 4) d s, .done, [], none⟩ := by
  simp only [outmodeAnswer, readMask_of h, hd, forOutputs_setMode]

end Masks

/-- Settles O16: a mask of 0..15 is taken output by output, addressed or broadcast alike. -/
theorem masksArmAndSetModes : Obligations.MasksArmAndSetModes := by
  intro q mb db s
  have dark : db.toNat = 0 → readMode db = some .dark := fun h => by simp [readMode, h]
  have showing : db.toNat = 1 → readMode db = some .showing := fun h => by simp [readMode, h]
  refine ⟨fun hears => ⟨fun h => onEither_refused hears (commit_range h), fun h => onEither_hears hears ?_,
      fun h hne => onEither_hears hears ?_, fun h => onEither_refused hears (outmode_range h),
      fun h hd => onEither_hears hears (outmode_of h (dark hd)), fun h hd => onEither_hears hears (outmode_of h (showing hd))⟩,
    fun heard => ⟨fun h => onEither_ignored heard (commit_range h), fun h => onEither_heard heard (commit_of h),
      fun h => onEither_ignored heard (outmode_range h), fun h hd => onEither_heard heard (outmode_of h (dark hd)),
      fun h hd => onEither_heard heard (outmode_of h (showing hd))⟩⟩
  · have zero : mb.setWidth 4 = 0#4 := (mask_eq_zero (by omega)).2 h
    rw [commit_of (by omega), zero, if_pos rfl, ← forOutputs_arm, forOutputs, maskOutputs_zero]
    rfl
  · rw [commit_of h, if_neg (by rwa [mask_eq_zero h])]
    rfl

/-! ### RECALL -/

/-- An output into which a preset is recalled, if it has it (R17). -/
def recalledOutput (n : Fin 8) (out : Output) : Output :=
  match out.preset n with
  | some x => { out with pending := x, dirty := false, armed := true }
  | none => out

/-- A recall overrides an edit of an output (R18). -/
def overrides (n : Fin 8) (out : Output) : Bool := (out.preset n).isSome && out.dirty

theorem recallInto_eq (n : Fin 8) (o : Fin 4) (s : State) : recallInto n o s =
    { s with outputs := tset s.outputs o (recalledOutput n (s.output o)) }.raiseIf (overrides n (s.output o)) .editOverridden := by
  unfold recallInto recalledOutput overrides
  split
  · rename_i h
    simp only [h, Option.isSome_none, Bool.false_and]
    rw [State.output, tset_tget]
    rfl
  · rename_i x h
    simp only [h, Option.isSome_some, Bool.true_and]
    rfl

/-- A condition that is raised twice is raised. -/
theorem raiseIf_raiseIf (a b : Bool) (c : Condition) (s : State) : (s.raiseIf a c).raiseIf b c = s.raiseIf (a || b) c := by
  cases a <;> cases b <;> simp [State.raiseIf, State.raise, BitVec.or_assoc]

/-- Recalls into different outputs, one after another. -/
theorem foldl_recallInto (n : Fin 8) (os : List (Fin 4)) (hos : os.Nodup) (s : State) :
    os.foldl (fun s o => recallInto n o s) s =
      { s with outputs := os.foldl (fun v o => tset v o (recalledOutput n (tget v o))) s.outputs }.raiseIf
        (os.any fun o => overrides n (s.output o)) .editOverridden := by
  induction os generalizing s with
  | nil => rfl
  | cons o os ih =>
    obtain ⟨hmem, hos⟩ := List.nodup_cons.1 hos
    have others : os.any (fun p => overrides n ((recallInto n o s).output p)) = os.any fun p => overrides n (s.output p) := by
      rw [Bool.eq_iff_iff, List.any_eq_true, List.any_eq_true]
      refine exists_congr fun p => and_congr_right fun hp => ?_
      have hne : o ≠ p := fun h => hmem (h ▸ hp)
      simp [recallInto_eq, State.output, hne]
    rw [List.foldl_cons, ih hos, others, List.any_cons, ← raiseIf_raiseIf, recallInto_eq]
    cases overrides n (s.output o) <;> rfl

theorem mem_maskOutputs {m : BitVec 4} {o : Fin 4} : o ∈ maskOutputs m ↔ m.getLsbD o.val = true := by simp [maskOutputs]

/-- Updating the outputs of a mask one after another is updating each by itself. -/
theorem foldl_maskOutputs (g : Output → Output) (m : BitVec 4) (s : State) :
    (maskOutputs m).foldl (fun v o => tset v o (g (tget v o))) s.outputs
      = tmap (fun o out => if m.getLsbD o.val then g out else out) s.outputs := by
  have h := forOutputs_eq g m s
  rw [forOutputs, foldl_setOutput] at h
  exact congrArg State.outputs h

/-- Recalling a preset into the outputs of a mask (R17, R18). -/
theorem forOutputs_recall (m : BitVec 4) (n : Fin 8) (s : State) : forOutputs m (recallInto n) s = recalled m n s := by
  have nodup : (maskOutputs m).Nodup := (List.nodup_finRange 4).filter _
  rw [forOutputs, foldl_recallInto n _ nodup, foldl_maskOutputs]
  have outputs : (fun (o : Fin 4) out => if m.getLsbD o.val = true then recalledOutput n out else out)
      = fun o out => match tget out.presets n with
        | some l => if m.getLsbD o.val then { out with pending := l, dirty := false, armed := true } else out
        | none => out := by
    funext o out
    simp only [recalledOutput, Output.preset]
    cases tget out.presets n
    · exact ite_self _
    · rfl
  have override : ((maskOutputs m).any fun o => overrides n (s.output o)) = true ↔
      ∃ o : Fin 4, m.getLsbD o.val = true ∧ ((s.output o).preset n).isSome = true ∧ (s.output o).dirty = true := by
    simp [List.any_eq_true, mem_maskOutputs, overrides]
  unfold recalled State.raiseIf
  rw [outputs]
  split
  · rewrite [if_pos (override.1 ‹_›)]
    rfl
  · rewrite [if_neg (mt override.2 ‹_›)]
    rfl

section Recall

variable {mb nb : Byte} {n : Fin 8}

theorem recall_range (h : 16 ≤ mb.toNat ∨ 8 ≤ nb.toNat) : recallAnswer mb nb s = refuse s .range := by
  rcases h with h | h
  · simp [recallAnswer, readMask_none h]
  · simp [recallAnswer, readIndex_none h]

theorem recallAll_range (h : 16 ≤ mb.toNat ∨ 8 ≤ nb.toNat) : recallAll mb nb s = s := by
  rcases h with h | h
  · simp [recallAll, readMask_none h]
  · simp [recallAll, readIndex_none h]

theorem recallAll_of (hm : mb.toNat < 16) (hn : Names nb n) : recallAll mb nb s = recalled (mb.setWidth 4) n s := by
  simp only [recallAll, readMask_of hm, readIndex_of hn, forOutputs_recall]

/-- An addressed RECALL in range (R17). -/
theorem recall_of (hm : mb.toNat < 16) (hn : Names nb n) : recallAnswer mb nb s =
    if mb.setWidth 4 = 0#4 then ⟨s, .done, [], none⟩
    else if (maskOutputs (mb.setWidth 4)).any (fun o => ((s.output o).preset n).isNone) then refuse s .absent
    else ⟨recalled (mb.setWidth 4) n s, .armed, [], none⟩ := by
  simp only [recallAnswer, readMask_of hm, readIndex_of hn, forOutputs_recall]

/-- An output of a mask byte is one of its low four bits. -/
theorem getLsbD_setWidth_output (b : Byte) (o : Fin 4) : (b.setWidth 4).getLsbD o.val = b.getLsbD o.val := by
  simp

/-- A mask that names an output is not empty. -/
theorem mask_ne_zero {o : Fin 4} (h : mb.getLsbD o.val = true) : mb.setWidth 4 ≠ 0#4 := by
  intro hz
  rw [← getLsbD_setWidth_output, hz] at h
  simp at h

end Recall

/-- Settles O18. -/
theorem recallCopiesThePreset : Obligations.RecallCopiesThePreset := by
  intro q mb nb s
  refine ⟨fun hears => ⟨fun h => onRequest_refused hears (recall_range h), fun n hn => ⟨fun hz => onRequest_hears hears ?_,
      fun hm habsent => onRequest_refused hears ?_, fun hm hne hpresent => onRequest_hears hears ?_⟩⟩,
    fun heard => ⟨fun h => onRequest_heard heard (recallAll_range h), fun n hn hm => onRequest_heard heard (recallAll_of hm hn)⟩⟩
  · rw [recall_of (by omega) hn, if_pos ((mask_eq_zero (by omega)).2 hz)]
  · obtain ⟨o, ho, hnone⟩ := habsent
    have lacking : (maskOutputs (mb.setWidth 4)).any (fun o => ((s.goodCell.output o).preset n).isNone) = true := by
      rw [List.any_eq_true]
      exact ⟨o, mem_maskOutputs.2 (by rwa [getLsbD_setWidth_output]), by simp [hnone]⟩
    rw [recall_of hm hn, if_neg (mask_ne_zero ho), if_pos lacking]
  · have present : ¬ (maskOutputs (mb.setWidth 4)).any (fun o => ((s.goodCell.output o).preset n).isNone) = true := by
      rw [List.any_eq_true]
      rintro ⟨o, ho, hnone⟩
      rw [mem_maskOutputs, getLsbD_setWidth_output] at ho
      exact hpresent o ho (Option.isNone_iff_eq_none.1 hnone)
    rw [recall_of hm hn, if_neg (by rwa [mask_eq_zero hm]), if_neg present]
    rfl

end Sys2Proof.Proofs
end

section
/-! PROOFS. TAKE (spec 4): its checks, the content written, the arming forgotten, and the start. -/

namespace Sys2Proof.Proofs

open Sys2Proof.Machine Sys2Proof.Claims Sys2Proof.Safety

variable {s : State} {o : Fin 4} {w : Fin 8} {r : WindowRecord}

/-! ### Operands -/

theorem readShown_eq_some {kind : Byte} {value : Word} {b : Shown} : readShown kind value = some b ↔ ShownAs kind value b := by
  unfold readShown
  split
  all_goals rename_i hk
  · cases b <;> simp [ShownAs, hk, readIndex_eq_some, valueByte_toNat]
    exact eq_comm
  · cases b <;> simp [ShownAs, hk, readColour_eq, eq_comm]
  · cases b <;> simp_all [ShownAs]

theorem readShown_none {kind : Byte} {value : Word} (h : ¬ ∃ b, ShownAs kind value b) : readShown kind value = none :=
  Option.eq_none_iff_forall_ne_some.2 fun b hb => h ⟨b, readShown_eq_some.1 hb⟩

theorem readStyle_of {b : Byte} {st : Style} (h : StyleAs b st) : readStyle b = some st := by
  cases st <;> simp_all [StyleAs, readStyle]

theorem readStyle_none {b : Byte} (h : 3 ≤ b.toNat) : readStyle b = none := by
  unfold readStyle
  split
  · omega
  · omega
  · omega
  · rfl

/-! ### The start -/

theorem takenDuration_eq (st : Style) (d : Nat) : takenDuration st d = durationTaken st d := by
  cases st
  · rfl
  · simp only [takenDuration, durationTaken, reduceCtorEq, if_false]
    split <;> omega
  · simp only [takenDuration, durationTaken, reduceCtorEq, if_false]
    split <;> omega

/-- The displayed content is the one R74 names. -/
theorem displayed_eq {a : Shown} (h : Displays s o w r a) : displayed s o w r = a := by
  unfold Displays at h
  unfold displayed idleContent RotationList.current
  cases ht : s.transition o w with
  | running t => rw [ht] at h; exact h.symm
  | idle =>
    rw [ht] at h
    cases hc : r.content with
    | source src => rw [hc] at h; exact h.symm
    | colour c => rw [hc] at h; exact h.symm
    | list x =>
      rw [hc] at h
      simp only at h ⊢
      cases hcur : (s.list x).entries[(s.list x).position]? with
      | some src => rw [hcur] at h; exact h.symm
      | none => rw [hcur] at h; exact h.symm

/-- A number of two parts side by side. -/
theorem toNat_append_eq {n m : Nat} (x : BitVec n) (y : BitVec m) : (x ++ y).toNat = x.toNat * 2 ^ m + y.toNat := by
  rw [BitVec.toNat_append, ← Nat.shiftLeft_add_eq_or_of_lt y.isLt, Nat.shiftLeft_eq]

/-- A colour's four bytes, as one number (R177). -/
theorem colourWord_eq (c : Colour) :
    colourWord c = BitVec.ofNat 32 (c.y.toNat * 2 ^ 20 + c.cb.toNat * 2 ^ 10 + c.cr.toNat) := by
  have hy := c.y.isLt
  have hcb := c.cb.isLt
  have hcr := c.cr.isLt
  apply BitVec.eq_of_toNat_eq
  simp only [colourWord, toNat_append_eq, BitVec.toNat_ofNat]
  omega

theorem shownBytes_eq (a : Shown) : shownBytes a = contentSent a := by
  cases a with
  | source src => rfl
  | colour c => simp only [shownBytes, contentSent, natWord, colourWord_eq]

/-- The result of a TAKE (§11.6): whether a transition ended and one started, the from-content of the start, and its duration. -/
theorem takeResult_eq (a b : Shown) (st : Style) (d : Nat) (x : TransitionRecord) :
    takeResult (decide (x ≠ .idle)) (startRecord a b st d .take) d =
      BitVec.ofNat 8 ((if x = .idle then 0 else 1) + (if a = b then 0 else 2))
        :: (if a = b then [0, 0, 0, 0, 0] else contentSent a) ++ [BitVec.ofNat 8 d] := by
  unfold startRecord
  by_cases hab : a = b
  · by_cases hx : x = .idle <;> simp [takeResult, hab, hx, byteOf]
  · by_cases hx : x = .idle <;> simp [takeResult, hab, hx, byteOf, shownBytes_eq]

/-! ### What a TAKE changes -/

/-- A TAKE for another source than the frozen one forgets the arming (R96). -/
theorem rearm_eq (a b : Shown) (s : State) : rearm o w a b s = { s with
    freezes := match s.freeze o w with
      | .armed _ i => if a = b ∨ ∃ src, (s.store i).binding = some src ∧ b = Shown.source src then s.freezes
                      else gset s.freezes o w .none
      | _ => s.freezes } := by
  unfold rearm
  cases s.freeze o w with
  | none => rfl
  | armed tag i =>
    have frozen : (s.frozenSource i).map Shown.source = some b ↔ ∃ src, (s.store i).binding = some src ∧ b = Shown.source src := by
      simp [State.frozenSource, eq_comm]
    simp only [frozen]
    split <;> rfl
  | frozen => rfl

/-- A TAKE that is carried out on the record of a window (R77). -/
theorem carryTake_eq {below above : List WindowRecord} {a b : Shown} {style : Style} {d : Nat}
    (h : HoldsAt (s.output o).active below r above w) (ha : Displays s o w r a) :
    carryTake o w r b style d s = ⟨(({ s with
        freezes := match s.freeze o w with
          | .armed _ i => if a = b ∨ ∃ src, (s.store i).binding = some src ∧ b = Shown.source src then s.freezes
                          else gset s.freezes o w .none
          | _ => s.freezes }).setOutput o { s.output o with
            active := below ++ { r with content := b.content } :: above
            pending := rewritten (s.output o).pending w b.content }).setTransition o w
        (started a b style (durationTaken style d) .take), .done,
      (BitVec.ofNat 8 ((if s.transition o w = .idle then 0 else 1) + (if a = b then 0 else 2)))
        :: (if a = b then [0, 0, 0, 0, 0] else contentSent a) ++ [BitVec.ofNat 8 (durationTaken style d)], none⟩ := by
  simp only [carryTake, displayed_eq ha, takenDuration_eq, takeResult_eq, rearm_eq, contentWrite, write_of_holdsAt h]
  rfl

section Checks

variable {ob wb kb yb db : Byte} {value : Word}

theorem take_range (h : 4 ≤ ob.toNat ∨ 8 ≤ wb.toNat ∨ 3 ≤ yb.toNat ∨ ¬ ∃ b, ShownAs kb value b) :
    takeAnswer ob wb kb value yb db s = refuse s .range := by
  rcases h with h | h | h | h
  · simp [takeAnswer, readIndex_none h]
  · simp [takeAnswer, readIndex_none h]
  · simp [takeAnswer, readStyle_none h]
  · simp [takeAnswer, readShown_none h]

/-! The checks of a TAKE in range (R75). -/

variable {b : Shown} {style : Style}

theorem take_absent (ho : Names ob o) (hw : Names wb w) (hb : ShownAs kb value b) (hy : StyleAs yb style)
    (ha : s.activeWindow o w = none) : takeAnswer ob wb kb value yb db s = refuse s .absent := by
  simp [takeAnswer, readIndex_of ho, readIndex_of hw, readShown_eq_some.2 hb, readStyle_of hy, ha]

theorem take_frozen (ho : Names ob o) (hw : Names wb w) (hb : ShownAs kb value b) (hy : StyleAs yb style)
    (ha : s.activeWindow o w = some r) (hf : (s.freeze o w).isFrozen = true) :
    takeAnswer ob wb kb value yb db s = refuse s .frozen := by
  simp [takeAnswer, readIndex_of ho, readIndex_of hw, readShown_eq_some.2 hb, readStyle_of hy, ha, hf]

theorem take_carried (ho : Names ob o) (hw : Names wb w) (hb : ShownAs kb value b) (hy : StyleAs yb style)
    (ha : s.activeWindow o w = some r) (hf : (s.freeze o w).isFrozen = false) :
    takeAnswer ob wb kb value yb db s = carryTake o w r b style db.toNat s := by
  simp [takeAnswer, readIndex_of ho, readIndex_of hw, readShown_eq_some.2 hb, readStyle_of hy, ha, hf]

end Checks

/-- A freeze record is FROZEN on some slot, or on none. -/
theorem isFrozen_iff {f : FreezeRecord} : f.isFrozen = true ↔ ∃ i k shared, f = .frozen i k shared := by
  cases f <;> simp [FreezeRecord.isFrozen]

/-- Settles O22: the checks in their order, then what `carryTake_eq` says. -/
theorem takeStartsATransition : Obligations.TakeStartsATransition := by
  intro q ob wb kb value yb db s hears
  refine ⟨fun h => onRequest_refused hears (take_range h), fun o w b style ho hw hb hy => ⟨fun hl => ?_,
    fun below r above h => ⟨fun hfrozen => ?_, fun hfree a ha => ?_⟩⟩⟩
  · exact onRequest_refused hears (take_absent ho hw hb hy (findWindow_none.2 hl))
  · exact onRequest_refused hears (take_frozen ho hw hb hy (find_of_holdsAt h) (isFrozen_iff.2 hfrozen))
  · have unfrozen : (s.freeze o w).isFrozen = false := by
      rw [← Bool.not_eq_true, isFrozen_iff]
      rintro ⟨i, k, shared, hf⟩
      exact hfree i k shared hf
    have carried := take_carried (s := s.goodCell) (db := db) ho hw hb hy (find_of_holdsAt h) unfrozen
    exact onRequest_hears hears (carried.trans (carryTake_eq (s := s.goodCell) h ha))

end Sys2Proof.Proofs
end

section
/-! PROOFS. The output frame end, in any order of its blocks (R115): each part runs once, and no other part changes what it is there to
change. -/

namespace Sys2Proof.Proofs

open Sys2Proof.Machine Sys2Proof.Claims Sys2Proof.Safety

variable {l : List Piece} {s t : State}

/-! ### Each part runs once -/

/-- The parts seen so far, with one more if it is new. -/
def addPart (seen : List FrameEndPart) (x : FrameEndPart) : List FrameEndPart := if x ∈ seen then seen else seen ++ [x]

theorem mem_foldl_addPart {x : FrameEndPart} (xs seen : List FrameEndPart) : x ∈ xs.foldl addPart seen ↔ x ∈ seen ∨ x ∈ xs := by
  induction xs generalizing seen with
  | nil => simp
  | cons y ys ih =>
    rw [List.foldl_cons, ih, addPart, List.mem_cons]
    split
    · rename_i hy
      have : x = y → x ∈ seen := fun h => h ▸ hy
      tauto
    · simp only [List.mem_append, List.mem_singleton]
      tauto

theorem nodup_foldl_addPart (xs : List FrameEndPart) {seen : List FrameEndPart} (h : seen.Nodup) : (xs.foldl addPart seen).Nodup := by
  induction xs generalizing seen with
  | nil => exact h
  | cons y ys ih =>
    refine ih ?_
    unfold addPart
    split
    · exact h
    · rename_i hy
      exact h.append (List.nodup_singleton y) (by simpa using hy)

theorem completeOrder_eq (order : List FrameEndPart) : completeOrder order = (order ++ listedParts).foldl addPart [] := rfl

theorem completeOrder_nodup (order : List FrameEndPart) : (completeOrder order).Nodup := nodup_foldl_addPart _ List.nodup_nil

theorem mem_completeOrder (order : List FrameEndPart) (x : FrameEndPart) : x ∈ completeOrder order := by
  rw [completeOrder_eq, mem_foldl_addPart, List.mem_append]
  exact .inr (.inr (by cases x <;> decide))

/-- What every part but one keeps, and that one changes by `F`, has changed by `F` after parts among which it stands once. -/
theorem frameParts_once {β : Type} {g : State → β} {F : β → β} {p : FrameEndPart} (act : ∀ s, g (framePart p s) = F (g s))
    (keep : ∀ x, x ≠ p → ∀ s, g (framePart x s) = g s) {xs : List FrameEndPart} (hn : xs.Nodup) (hp : p ∈ xs) (s : State) :
    g (xs.foldl (fun s x => framePart x s) s) = F (g s) := by
  have idle : ∀ (ys : List FrameEndPart) s, p ∉ ys → g (ys.foldl (fun s x => framePart x s) s) = g s := by
    intro ys
    induction ys with
    | nil => exact fun s _ => rfl
    | cons y ys ih =>
      intro s hy
      obtain ⟨hne, hys⟩ : p ≠ y ∧ p ∉ ys := by simpa using hy
      rw [List.foldl_cons, ih _ hys, keep y (Ne.symm hne)]
  induction xs generalizing s with
  | nil => cases hp
  | cons x xs ih =>
    obtain ⟨hx, hxs⟩ := List.nodup_cons.1 hn
    rw [List.foldl_cons]
    by_cases h : x = p
    · subst h
      rw [idle xs _ hx, act]
    · rw [ih hxs ((List.mem_cons.1 hp).resolve_left (Ne.symm h)), keep x h]

/-! ### What the parts change -/

/-- What leaves the banks, the presets and the flags leaves the outputs. -/
theorem Touches.outputs (h : Touches l s t) (hb : Piece.banks ∉ l) (hp : Piece.presets ∉ l) (hf : Piece.flags ∉ l) :
    t.outputs = s.outputs := by
  refine table_ext fun o => ?_
  obtain ⟨ha, hpend⟩ := h .banks hb o
  obtain ⟨harm, hdirty, hmode⟩ := h .flags hf o
  have hpre := h .presets hp o
  show t.output o = s.output o
  generalize t.output o = x at *
  generalize s.output o = y at *
  cases x
  cases y
  simp_all

/-- An output at a bank swap, if its commit is armed (R14). -/
def swapped (out : Output) : Output := if out.armed then swapBanks out else out

theorem swapOutput_outputs (o : Fin 4) (s : State) : (swapOutput o s).outputs = tset s.outputs o (swapped (tget s.outputs o)) := by
  have windows : ((List.finRange 8).foldl (swapWindow o) s).outputs = s.outputs :=
    (Touches.foldl (swapWindow_touches o) _ s).outputs (by decide) (by decide) (by decide)
  unfold swapOutput swapped
  split
  · simp only [State.setOutput_outputs, State.output, windows] at *
    simp [*]
  · simp_all [State.output]

theorem swapPart_outputs (s : State) : (swapPart s).outputs = tmap (fun _ out => swapped out) s.outputs := by
  have all : List.finRange 4 = maskOutputs 15#4 := by decide
  have every : ∀ o : Fin 4, (15#4).getLsbD o.val = true := by decide
  have fold := List.foldl_hom State.outputs (g₁ := fun s o => swapOutput o s) (g₂ := fun v o => tset v o (swapped (tget v o)))
    (l := List.finRange 4) (init := s) fun s o => (swapOutput_outputs o s).symm
  rw [swapPart, ← fold, all, foldl_maskOutputs]
  simp only [every, if_true]

theorem framePart_outputs {x : FrameEndPart} (hx : x ≠ .swap) (s : State) : (framePart x s).outputs = s.outputs := by
  have quiet : Piece.banks ∉ partPieces x ∧ Piece.presets ∉ partPieces x ∧ Piece.flags ∉ partPieces x := by
    revert hx; cases x <;> decide
  exact (framePart_touches x s).outputs quiet.1 quiet.2.1 quiet.2.2

theorem framePart_counter {x : FrameEndPart} (hx : x ≠ .count) (s : State) : (framePart x s).rgu.counter = s.rgu.counter :=
  framePart_touches x s .counter (by revert hx; cases x <;> decide)

/-- The survey, and whether its part of the coming output frame end has been taken. -/
def surveyView (s : State) : Survey × Bool := (s.survey, s.marked .survey)

theorem framePart_surveyView {x : FrameEndPart} (hx : x ≠ .survey) (s : State) : surveyView (framePart x s) = surveyView s := by
  have survey : (framePart x s).survey = s.survey := framePart_touches x s .survey (by revert hx; cases x <;> decide)
  have mark : (FrameEndMark.survey ∈ (framePart x s).early ↔ FrameEndMark.survey ∈ s.early) :=
    framePart_touches x s .surveyMark (by cases x <;> decide)
  simp only [surveyView, survey, State.marked, mark]

theorem surveyPart_view (s : State) :
    surveyView (surveyPart s) = (if s.marked .survey then s.survey else surveyCount s.survey, s.marked .survey) := by
  unfold surveyPart
  split <;> simp_all [surveyView, State.marked]

/-! ### The output frame end -/

section FrameEnd

variable (order : List FrameEndPart) (s : State)

/-- The state after all parts, before the frame is closed. -/
def afterParts : State := (completeOrder order).foldl (fun s x => framePart x s) s

theorem frameEnd_eq : frameEnd order s = closeFrame (afterParts order s) := rfl

theorem afterParts_touches : Touches framePieces s (afterParts order s) := frameParts_touch _ s

theorem afterParts_counter : (afterParts order s).rgu.counter = wrapInc s.rgu.counter :=
  frameParts_once (g := fun s => s.rgu.counter) (F := wrapInc) (p := .count) (fun _ => rfl) (fun _ hx s => framePart_counter hx s)
    (completeOrder_nodup order) (mem_completeOrder order _) s

theorem afterParts_outputs : (afterParts order s).outputs = tmap (fun _ out => swapped out) s.outputs :=
  frameParts_once (g := State.outputs) (F := tmap fun _ out => swapped out) (p := .swap) swapPart_outputs
    (fun _ hx s => framePart_outputs hx s) (completeOrder_nodup order) (mem_completeOrder order _) s

theorem afterParts_survey :
    (afterParts order s).survey = if s.marked .survey then s.survey else surveyCount s.survey :=
  congrArg Prod.fst (frameParts_once (g := surveyView) (F := fun v => (if v.2 then v.1 else surveyCount v.1, v.2)) (p := .survey)
    surveyPart_view (fun _ hx s => framePart_surveyView hx s) (completeOrder_nodup order) (mem_completeOrder order _) s)

/-- The fields that an output frame end leaves, and those of FMC, the former contents and the marks, which it empties. -/
theorem frameEnd_fields : frameEnd order s =
    { s with fmc := ⟨[], none⟩, samples := Vector.replicate 4 none,
             stores := (frameEnd order s).stores, rgu := (frameEnd order s).rgu, outputs := (frameEnd order s).outputs,
             transitions := (frameEnd order s).transitions,
             former := Vector.replicate 4 (Vector.replicate 8 none), freezes := (frameEnd order s).freezes,
             lists := (frameEnd order s).lists, survey := (frameEnd order s).survey,
             conditions := (frameEnd order s).conditions, early := [] } := by
  have kept := frameEnd_touches order s
  obtain ⟨trx, fwd⟩ := kept .trunk (by decide)
  obtain ⟨lastReset, freeCount, pending⟩ := kept .rest (by decide)
  exact State.ext_fields trx fwd (kept .address (by decide)) rfl (kept .limits (by decide)) (kept .queue (by decide))
    (kept .memory (by decide)) rfl rfl rfl rfl rfl rfl (kept .clock (by decide)) (kept .cues (by decide))
    (kept .plans (by decide)) rfl rfl lastReset rfl freeCount pending rfl rfl

theorem frameEnd_rgu : (frameEnd order s).rgu.scan = .between ∧ (frameEnd order s).rgu.length = s.rgu.length
    ∧ (frameEnd order s).rgu.corr = s.rgu.corr ∧ (frameEnd order s).rgu.tick = s.rgu.length - 1 := by
  obtain ⟨-, length, corr⟩ := afterParts_touches order s .frame (by decide)
  exact ⟨rfl, length, corr, congrArg (· - 1) length⟩

theorem frameEnd_output (o : Fin 4) : (frameEnd order s).output o = swapped (s.output o) := by
  show tget (afterParts order s).outputs o = _
  rw [afterParts_outputs, tget_tmap]
  rfl

end FrameEnd

/-- Settles O45: every piece of the statement is changed by one part, which runs once in every order. -/
theorem frameEndSwapsAndCounts : Obligations.FrameEndSwapsAndCounts := by
  intro order s running
  have counter : (frameEnd order s).rgu.counter = wrapInc s.rgu.counter := afterParts_counter order s
  have survey : (frameEnd order s).survey = if s.marked .survey then s.survey else surveyCount s.survey := afterParts_survey order s
  have conditions := (frameEnd_touches order s) .conditions (by decide)
  have others := (frameEnd_touches order s) .otherConditions (by decide)
  refine ⟨frameEnd order s, congrArg _ (if_pos running), frameEnd_fields order s, frameEnd_rgu order s, fun h => ?_, fun h => ?_,
    frameEnd_output order s, fun h => ?_, fun hr hm hleft => ?_, fun n => ⟨conditions n, others n⟩⟩
  · rw [counter, wrapInc, Config.frameCounterModulus]
    omega
  · rw [counter, h]
    rfl
  · rw [survey]
    rcases h with h | h
    · cases hs : s.survey.state <;> simp_all [surveyCount]
    · simp [State.marked, h]
  · have last : (s.survey.framesLeft ≤ 1) = (s.survey.framesLeft = 1) := propext ⟨by omega, by omega⟩
    rw [survey, State.marked, if_neg (by simpa using hm)]
    simp only [surveyCount, hr, last]

end Sys2Proof.Proofs
end

section
/-! PROOFS. Power-on (R175): its values, and that they are legal. -/

namespace Sys2Proof.Proofs

open Sys2Proof.Machine Sys2Proof.Claims Sys2Proof.Safety

theorem reset_trunk : TrunkLegal State.reset := by decide
theorem reset_counters : CountersLegal State.reset := by decide
theorem reset_cues : CuesLegal State.reset := by decide
theorem reset_stores : StoresLegal State.reset := by decide +kernel
theorem reset_transitions : TransitionsLegal State.reset := by decide +kernel
theorem reset_freezes : FreezesLegal State.reset := by decide +kernel
theorem reset_raster : RasterStateLegal State.reset := by decide
theorem reset_genlock : GenlockLegal State.reset := by decide +kernel
theorem reset_fetches : FetchesLegal State.reset := by decide

/-- Every legality holds right after power-on. -/
theorem reset_legal : Legal State.reset :=
  ⟨reset_trunk, reset_counters, reset_cues, reset_layout, reset_stores, rfl, reset_transitions, reset_freezes, reset_rotation,
    reset_raster, reset_genlock, reset_fetches⟩

/-- Settles O54. -/
theorem powerOnIsTheReset : Obligations.PowerOnIsTheReset := by
  refine ⟨fun s => rfl, fun s hp hc => ?_, reset_legal⟩
  unfold afterPowerOn
  rw [hp, hc]
  rfl

end Sys2Proof.Proofs
end

section
/-! PROOFS. Bytes on the trunk read back as what was written (R6, R130, R138, R176, R177). -/

namespace Sys2Proof.Proofs

open Sys2Proof.Machine Sys2Proof.Claims Sys2Proof.Safety

/-! ### Fields -/

theorem byteAt_zero (b : Byte) (bytes : List Byte) : byteAt (b :: bytes) 0 = b := rfl

theorem byteAt_succ (b : Byte) (bytes : List Byte) (n : Nat) : byteAt (b :: bytes) (n + 1) = byteAt bytes n := rfl

theorem halfAt_succ (b : Byte) (bytes : List Byte) (n : Nat) : halfAt (b :: bytes) (n + 1) = halfAt bytes n := rfl

theorem wordAt_succ (b : Byte) (bytes : List Byte) (n : Nat) : wordAt (b :: bytes) (n + 1) = wordAt bytes n := by
  rw [wordAt, wordAt, halfAt_succ, Nat.add_right_comm, halfAt_succ]

/-- A two-byte field is read from its bytes. -/
theorem halfAt_halfBytes (h : Half) (bytes : List Byte) : halfAt (h.extractLsb' 8 8 :: h.extractLsb' 0 8 :: bytes) 0 = h := by
  have := h.isLt
  apply BitVec.eq_of_toNat_eq
  simp only [halfAt, toNat_append_eq, byteAt_zero, byteAt_succ, BitVec.extractLsb'_toNat, Nat.shiftRight_eq_div_pow]
  omega

/-- A four-byte field is read from its bytes. -/
theorem wordAt_wordBytes (w : Word) (bytes : List Byte) :
    wordAt (w.extractLsb' 24 8 :: w.extractLsb' 16 8 :: w.extractLsb' 8 8 :: w.extractLsb' 0 8 :: bytes) 0 = w := by
  have := w.isLt
  apply BitVec.eq_of_toNat_eq
  simp only [wordAt, halfAt, toNat_append_eq, byteAt_zero, byteAt_succ, BitVec.extractLsb'_toNat, Nat.shiftRight_eq_div_pow]
  omega

/-! ### Window records -/

/-- The 34 bytes of a WINSET record, field after field (§11.5). -/
def rawBytes (raw : RawWindow) : List Byte :=
  List.flatten [[raw.number, raw.kind], wordBytes raw.value, halfBytes raw.x0, halfBytes raw.y0, halfBytes raw.width,
    halfBytes raw.height, [raw.presence], halfBytes raw.cx0, halfBytes raw.cy0, halfBytes raw.cw, halfBytes raw.ch,
    halfBytes raw.opacity, [raw.borderWidth], wordBytes raw.borderColour, wordBytes raw.fallback]

theorem rawBytes_length (raw : RawWindow) : (rawBytes raw).length = 34 := rfl

/-- A WINSET record is read from its bytes. -/
theorem rawWindowAt_rawBytes (raw : RawWindow) : rawWindowAt (rawBytes raw) 0 = raw := by
  obtain ⟨number, kind, value, x0, y0, width, height, presence, cx0, cy0, cw, ch, opacity, borderWidth, borderColour, fallback⟩ := raw
  simp only [rawBytes, List.flatten_cons, rawWindowAt, wordBytes, halfBytes, List.cons_append, List.nil_append, Nat.zero_add,
    byteAt_zero, byteAt_succ, halfAt_succ, wordAt_succ, halfAt_halfBytes, wordAt_wordBytes]

/-- The kind and value a content is written as (R177). -/
def contentRaw : Content → Byte × Word
  | .source src => (0, BitVec.ofNat 32 (src.val * 2 ^ 24))
  | .list x => (1, BitVec.ofNat 32 (x.val * 2 ^ 24))
  | .colour c => (2, colourWord c)

/-- The WINSET record that writes a window record, the fields that are absent as 0 (R177). -/
def rawOf (r : WindowRecord) : RawWindow where
  number := byteOf r.number.val
  kind := (contentRaw r.content).1
  value := (contentRaw r.content).2
  x0 := BitVec.ofInt 16 r.x0
  y0 := BitVec.ofInt 16 r.y0
  width := BitVec.ofNat 16 r.width
  height := BitVec.ofNat 16 r.height
  presence := presenceByte r
  cx0 := BitVec.ofNat 16 ((r.crop.map Crop.cx0).getD 0)
  cy0 := BitVec.ofNat 16 ((r.crop.map Crop.cy0).getD 0)
  cw := BitVec.ofNat 16 ((r.crop.map Crop.cw).getD 0)
  ch := BitVec.ofNat 16 ((r.crop.map Crop.ch).getD 0)
  opacity := BitVec.ofNat 16 r.opacity
  borderWidth := byteOf ((r.border.map Border.width).getD 0)
  borderColour := (r.border.map (fun b => colourWord b.colour)).getD 0#32
  fallback := (r.fallback.map colourWord).getD 0#32

/-- A source number stands in the first byte of a value. -/
theorem wordBytes_source : ∀ src : Fin 16, wordBytes (BitVec.ofNat 32 (src.val * 2 ^ 24)) = [byteOf src.val, 0, 0, 0] := by decide

/-- So does a list number. -/
theorem wordBytes_list : ∀ x : Fin 4, wordBytes (BitVec.ofNat 32 (x.val * 2 ^ 24)) = [byteOf x.val, 0, 0, 0] := by decide

theorem contentBytes_eq (c : Content) : contentBytes c = (contentRaw c).1 :: wordBytes (contentRaw c).2 := by
  cases c with
  | source src => rw [contentBytes, contentRaw, wordBytes_source]
  | list x => rw [contentBytes, contentRaw, wordBytes_list]
  | colour c => rfl

/-- The bytes WINREAD writes are those of a WINSET record. -/
theorem windowBytes_eq (r : WindowRecord) : windowBytes r = rawBytes (rawOf r) := by
  have crop : cropBytes r.crop = natHalf ((r.crop.map Crop.cx0).getD 0) ++ natHalf ((r.crop.map Crop.cy0).getD 0)
      ++ natHalf ((r.crop.map Crop.cw).getD 0) ++ natHalf ((r.crop.map Crop.ch).getD 0) := by
    cases r.crop <;> rfl
  rw [windowBytes, contentBytes_eq, crop]
  rfl

/-! ### What those bytes say -/

/-- The presence byte says which optional fields there are; border width and colour go together. -/
theorem presence_bits (crop border fallback : Bool) :
    let b := byteOf ((if crop then 1 else 0) + (if border then 6 else 0) + (if fallback then 8 else 0))
    b.getLsbD 0 = crop ∧ b.getLsbD 1 = border ∧ b.getLsbD 2 = border ∧ b.getLsbD 3 = fallback := by
  revert crop border fallback
  decide

theorem byteOf_toNat {n : Nat} (h : n < 256) : (byteOf n).toNat = n := Nat.mod_eq_of_lt h

theorem half_toNat {n : Nat} (h : n < 65536) : (BitVec.ofNat 16 n).toNat = n := Nat.mod_eq_of_lt h

theorem half_toInt {v : Int} (h : -2048 ≤ v ∧ v ≤ 4095) : (BitVec.ofInt 16 v).toInt = v := by
  rw [BitVec.toInt_ofInt]
  exact Int.bmod_eq_of_le (by omega) (by omega)

theorem colourOf_colourWord (c : Colour) : colourOf (colourWord c) = c := by
  have hy := c.y.isLt
  have hcb := c.cb.isLt
  have hcr := c.cr.isLt
  obtain ⟨y, cb, cr⟩ := c
  simp only at hy hcb hcr
  rw [colourWord_eq, colourOf, Colour.mk.injEq]
  simp only [← BitVec.toNat_inj, BitVec.toNat_ofNat]
  omega

theorem contentRaw_as (c : Content) : ContentAs (contentRaw c).1 (contentRaw c).2 c := by
  cases c with
  | source src =>
    have := src.isLt
    refine ⟨rfl, ?_⟩
    simp only [contentRaw, BitVec.toNat_ofNat]
    omega
  | list x =>
    have := x.isLt
    refine ⟨rfl, ?_⟩
    simp only [contentRaw, BitVec.toNat_ofNat]
    omega
  | colour c => exact ⟨rfl, (colourOf_colourWord c).symm⟩

/-- A legal record is read back from the fields it is written as. -/
theorem readWindow_rawOf {r : WindowRecord} (h : RecordLegal r) : readWindow (rawOf r) = some r := by
  obtain ⟨⟨hx0, hx1, hy0, hy1⟩, ⟨hw0, hw1, hh0, hh1⟩, hcrop, hop, hborder⟩ := h
  obtain ⟨pcrop, pwidth, pcolour, pfallback⟩ := presence_bits r.crop.isSome r.border.isSome r.fallback.isSome
  have hnum := r.number.isLt
  rw [readWindow_fields, readIndex_eq_some, readContent_eq_some, readSigned_eq_some, readSigned_eq_some, readRange_eq_some,
    readRange_eq_some, readOptional_crop_eq_some, readBorder_eq_some, readOpacity_eq, readColour_eq]
  simp only [rawOf, presenceByte, pcrop, pwidth, pcolour, pfallback, half_toInt ⟨hx0, hx1⟩, half_toInt ⟨hy0, hy1⟩]
  simp only [half_toNat (by omega : r.width < 65536), half_toNat (by omega : r.height < 65536),
    half_toNat (by omega : r.opacity < 65536)]
  refine ⟨byteOf_toNat (by omega), contentRaw_as _, ⟨⟨hx0, hx1⟩, trivial⟩, ⟨⟨hy0, hy1⟩, trivial⟩, ⟨⟨hw0, hw1⟩, trivial⟩,
    ⟨⟨hh0, hh1⟩, trivial⟩, ?_, ?_, ?_, ?_⟩
  · cases hc : r.crop with
    | none => simp
    | some c =>
      obtain ⟨h1, h2, h3, h4, h5, h6⟩ := hcrop c hc
      simp only [Option.map_some, Option.getD_some, Option.isSome_some, if_true, true_imp_iff]
      rw [half_toNat (by omega), half_toNat (by omega), half_toNat (by omega), half_toNat (by omega)]
      exact ⟨⟨h1, h2, ⟨h3, h4⟩, ⟨h5, h6⟩⟩, rfl⟩
  · cases hb : r.border with
    | none => simp
    | some b =>
      have := hborder b hb
      simp only [Option.map_some, Option.getD_some, Option.isSome_some, if_true, true_imp_iff, colourOf_colourWord]
      rw [byteOf_toNat (by omega)]
      exact ⟨⟨trivial, this⟩, rfl⟩
  · split <;> omega
  · cases hf : r.fallback with
    | none => rfl
    | some c => simp [colourOf_colourWord]

/-! ### The header check -/

/-- A shift of the register by one bit, as a number. -/
theorem shiftLeft_one_eq (r : Half) : r <<< 1 = BitVec.ofNat 16 (2 * r.toNat) := by
  apply BitVec.eq_of_toNat_eq
  rw [BitVec.toNat_shiftLeft, BitVec.toNat_ofNat, Nat.shiftLeft_eq, pow_one, Nat.mul_comm]

theorem crcBit_eq_checkedBit (r : Half) (bit : Bool) : crcBit r bit = checkedBit r bit := by
  rw [crcBit, checkedBit, BitVec.msb_eq_getLsbD_last, shiftLeft_one_eq]
  cases r.getLsbD 15 <;> cases bit <;> rfl

theorem headerCheck_append (h rest : List Byte) : headerCheck (h ++ rest) = rest.foldl crcByte (headerCheck h) :=
  List.foldl_append

/-- A byte enters the check bit by bit, most significant first (R176). -/
theorem crcByte_eq (r : Half) (b : Byte) :
    crcByte r b = [b.getLsbD 7, b.getLsbD 6, b.getLsbD 5, b.getLsbD 4, b.getLsbD 3, b.getLsbD 2, b.getLsbD 1, b.getLsbD 0].foldl
      checkedBit r := by
  simp only [crcByte, List.foldl_cons, List.foldl_nil, crcBit_eq_checkedBit]

/-- A bit equal to the one shifted out leaves the polynomial out. -/
theorem crcBit_shifted (r : Half) {k : Nat} (hk : k < 16) : crcBit (r <<< k) (r.getLsbD (15 - k)) = r <<< (k + 1) := by
  have top : (r <<< k).msb = r.getLsbD (15 - k) := by
    rw [BitVec.msb_eq_getLsbD_last, BitVec.getLsbD_shiftLeft]
    simp [show ¬ 15 < k by omega]
  rw [crcBit, top, BitVec.shiftLeft_add]
  simp

/-- The register's own upper byte shifts it by eight bits. -/
theorem crcByte_shifts {r : Half} {b : Byte} (h : ∀ k, k < 8 → b.getLsbD (7 - k) = r.getLsbD (15 - k)) : crcByte r b = r <<< 8 := by
  have bit {k : Nat} (hk : k < 8) : crcBit (r <<< k) (b.getLsbD (7 - k)) = r <<< (k + 1) := by
    rw [h k hk, crcBit_shifted r (by omega)]
  calc crcByte r b
    _ = crcBit (crcBit (crcBit (crcBit (crcBit (crcBit (crcBit (crcBit (r <<< 0) (b.getLsbD (7 - 0))) (b.getLsbD (7 - 1)))
          (b.getLsbD (7 - 2))) (b.getLsbD (7 - 3))) (b.getLsbD (7 - 4))) (b.getLsbD (7 - 5))) (b.getLsbD (7 - 6))) (b.getLsbD (7 - 7)) := by
        rw [BitVec.shiftLeft_zero]
        rfl
    _ = r <<< 8 := by
        rw [bit (k := 0) (by decide), bit (k := 1) (by decide), bit (k := 2) (by decide), bit (k := 3) (by decide),
          bit (k := 4) (by decide), bit (k := 5) (by decide), bit (k := 6) (by decide), bit (k := 7) (by decide)]

/-- A header followed by its check leaves 0. -/
theorem headerCheck_self (h : List Byte) : headerCheck (h ++ halfBytes (headerCheck h)) = 0#16 := by
  rw [headerCheck_append]
  generalize headerCheck h = r
  have upper : crcByte r (r.extractLsb' 8 8) = r <<< 8 := crcByte_shifts fun k hk => by
    rw [BitVec.getLsbD_extractLsb', decide_eq_true (by omega), Bool.true_and]
    congr 1
    omega
  have lower : crcByte (r <<< 8) (r.extractLsb' 0 8) = r <<< 8 <<< 8 := crcByte_shifts fun k hk => by
    rw [BitVec.getLsbD_extractLsb', decide_eq_true (by omega), Bool.true_and, BitVec.getLsbD_shiftLeft]
    simp [show 15 - k < 16 by omega, show ¬ 15 - k < 8 by omega, show 15 - k - 8 = 7 - k by omega]
  rw [halfBytes, List.foldl_cons, List.foldl_cons, List.foldl_nil, upper, lower, ← BitVec.shiftLeft_add]
  exact BitVec.shiftLeft_eq_zero (by decide)

/-! ### Cells -/

theorem byteAt_append_left {l : List Byte} (rest : List Byte) {n : Nat} (h : n < l.length) : byteAt (l ++ rest) n = byteAt l n :=
  List.getD_append _ _ _ _ h

theorem byteAt_append_right {l : List Byte} (rest : List Byte) {n : Nat} (h : l.length ≤ n) :
    byteAt (l ++ rest) n = byteAt rest (n - l.length) :=
  List.getD_append_right _ _ _ _ h

theorem byteAt_replicate_zero (m n : Nat) : byteAt (List.replicate m 0#8) n = 0#8 := by
  rw [byteAt, List.getD_eq_getElem?_getD, List.getElem?_replicate]
  split <;> rfl

theorem byteAt_take (l : List Byte) {m n : Nat} (h : n < m) : byteAt (l.take m) n = byteAt l n := by
  rw [byteAt, byteAt, List.getD_eq_getElem?_getD, List.getElem?_take_of_lt h, List.getD_eq_getElem?_getD]

theorem byteAt_drop (l : List Byte) (m n : Nat) : byteAt (l.drop m) n = byteAt l (m + n) := by
  rw [byteAt, byteAt, List.getD_eq_getElem?_getD, List.getElem?_drop, List.getD_eq_getElem?_getD]

theorem byteAt_set_ne (l : List Byte) (b : Byte) {m n : Nat} (h : n ≠ m) : byteAt (l.set m b) n = byteAt l n := by
  rw [byteAt, byteAt, List.getD_eq_getElem?_getD, List.getElem?_set_ne (Ne.symm h), List.getD_eq_getElem?_getD]

theorem byteAt_set_self {l : List Byte} (b : Byte) {m : Nat} (h : m < l.length) : byteAt (l.set m b) m = b := by
  rw [byteAt, List.getD_eq_getElem?_getD, List.getElem?_set_self h]
  rfl

section
variable {header payload : List Byte} (hh : header.length = 46)
include hh

theorem cellOf_length : (cellOf header payload).length = 48 + payload.length := by
  simp only [cellOf, halfBytes, List.length_append, List.length_cons, List.length_nil, hh]

theorem cellOf_take : (cellOf header payload).take 46 = header := by
  rw [cellOf, List.append_assoc, ← hh, List.take_left]

theorem cellOf_drop : (cellOf header payload).drop 48 = payload :=
  List.drop_left' (by rw [List.length_append, hh]; rfl)

theorem byteAt_cellOf_header {n : Nat} (hn : n < 46) : byteAt (cellOf header payload) n = byteAt header n := by
  rw [cellOf, List.append_assoc, byteAt_append_left _ (by omega)]

theorem byteAt_cellOf_payload {n : Nat} (hn : 48 ≤ n) : byteAt (cellOf header payload) n = byteAt payload (n - 48) := by
  have hl : (header ++ halfBytes (headerCheck header)).length = 48 := by rw [List.length_append, hh]; rfl
  rw [cellOf, byteAt_append_right _ (by omega), hl]

/-- A cell carries the check of its header (R130). -/
theorem halfAt_cellOf : halfAt (cellOf header payload) 46 = headerCheck header := by
  have byte (n : Nat) : byteAt (cellOf header payload) (46 + n) = byteAt (halfBytes (headerCheck header) ++ payload) n := by
    rw [cellOf, List.append_assoc, byteAt_append_right _ (by omega), hh, Nat.add_sub_cancel_left]
  calc halfAt (cellOf header payload) 46
    _ = halfAt (halfBytes (headerCheck header) ++ payload) 0 := congrArg₂ (· ++ ·) (byte 0) (byte 1)
    _ = headerCheck header := halfAt_halfBytes _ _

/-- A receiver in SYNC takes a whole cell for what its header says (R133, R134). -/
theorem decodeCell_cellOf (hp : payload.length = 960) (tick : Nat) :
    decodeCell tick (cellOf header payload) = some (decodeHeader tick header payload) := by
  rw [decodeCell, if_pos ((cellOf_length hh).trans (by rw [hp]; rfl)), cellOf_take hh, cellOf_drop hh, halfAt_cellOf hh, goodHeader,
    if_pos (beq_self_eq_true _)]

end

/-- A cell whose check fails is a header error, whatever its type (R130). -/
theorem decodeCell_failed {cell : List Byte} (hl : cell.length = 1008) (h : headerCheck (cell.take 46) ≠ halfAt cell 46) (tick : Nat) :
    decodeCell tick cell = some .headerError := by
  rw [decodeCell, if_pos (show cell.length = Config.cellBytes from hl), goodHeader, if_neg (by simpa using h)]

theorem number_eq_replyNumber (c : ReplyCode) : c.number = replyNumber c := by
  cases c <;> rfl

/-- A result of 40 bytes fills the header of a reply. -/
theorem replyHeader_eq {r : Reply} (h : r.result.length = 40) :
    replyHeader r = [7, r.target, r.tag, r.request, replyNumber r.code, flagByte r.attention] ++ r.result := by
  rw [replyHeader, padTo, List.length_append, h, number_eq_replyNumber]
  exact List.append_nil _

theorem replyHeader_length {r : Reply} (h : r.result.length = 40) : (replyHeader r).length = 46 := by
  rw [replyHeader_eq h, List.length_append, h]
  rfl

/-- The cell of a reply (R162, R176). -/
theorem reply_cell (received : List Byte) {r : Reply} (h : r.result.length = 40) :
    ∃ cell, sentCell received (.reply r) = some cell ∧ cell.length = 1008
      ∧ byteAt cell 0 = 7#8 ∧ byteAt cell 1 = r.target ∧ byteAt cell 2 = r.tag ∧ byteAt cell 3 = r.request
      ∧ byteAt cell 4 = replyNumber r.code ∧ byteAt cell 5 = (if r.attention then 1#8 else 0#8)
      ∧ (∀ n, n < 40 → byteAt cell (6 + n) = byteAt r.result n) ∧ (∀ n, 48 ≤ n → byteAt cell n = 0#8)
      ∧ ∀ tick, decodeCell tick cell = some (.forwardCell 7#8) := by
  have hl := replyHeader_length h
  have field {n : Nat} (hn : n < 46) (payload : List Byte) : byteAt (cellOf (replyHeader r) payload) n
      = byteAt ([7, r.target, r.tag, r.request, replyNumber r.code, flagByte r.attention] ++ r.result) n := by
    rw [byteAt_cellOf_header hl hn, replyHeader_eq h]
  refine ⟨_, rfl, (cellOf_length hl).trans (by rw [List.length_replicate]), field (by decide) _, field (by decide) _,
    field (by decide) _, field (by decide) _, field (by decide) _, field (by decide) _, fun n hn => ?_, fun n hn => ?_, fun tick => ?_⟩
  · rw [field (by omega), byteAt_append_right _ (Nat.le_add_right 6 n)]
    exact congrArg _ (Nat.add_sub_cancel_left 6 n)
  · rw [byteAt_cellOf_payload hl hn, byteAt_replicate_zero]
  · rw [decodeCell_cellOf hl List.length_replicate, replyHeader_eq h]
    rfl

/-- The cell of a FILL. -/
theorem fill_cell (received : List Byte) :
    ∃ cell, sentCell received .fill = some cell ∧ cell.length = 1008
      ∧ (∀ n, n ≠ 46 → n ≠ 47 → byteAt cell n = 0#8) ∧ ∀ tick, decodeCell tick cell = some (.forwardCell 0#8) := by
  have hl : (List.replicate 46 0#8).length = 46 := List.length_replicate
  refine ⟨_, rfl, (cellOf_length hl).trans (by rw [List.length_replicate]), fun n h46 h47 => ?_, fun tick => ?_⟩
  · rcases Nat.lt_or_ge n 46 with hn | hn
    · rw [byteAt_cellOf_header hl hn, byteAt_replicate_zero]
    · rw [byteAt_cellOf_payload hl (by omega), byteAt_replicate_zero]
  · rw [decodeCell_cellOf hl List.length_replicate]
    rfl

/-- An ENUM cell passed on with a new next address (R137, R138). -/
theorem enum_cell {received : List Byte} (hr : received.length = 1008) (h5 : byteAt received 0 = 5#8) (next : Byte) :
    ∃ cell, sentCell received (.enumNext next) = some cell ∧ cell.length = 1008
      ∧ (∀ n, n ≠ 1 → n ≠ 46 → n ≠ 47 → byteAt cell n = byteAt received n)
      ∧ ∀ tick, decodeCell tick cell = some (.enumCell next) := by
  have htake : (received.take 46).length = 46 := by rw [List.length_take, hr]; rfl
  have hl : ((received.take 46).set 1 next).length = 46 := by rw [List.length_set, htake]
  have hp : (received.drop 48).length = 960 := by rw [List.length_drop, hr]
  refine ⟨_, rfl, (cellOf_length hl).trans (by rw [hp]), fun n h1 h46 h47 => ?_, fun tick => ?_⟩
  · rcases Nat.lt_or_ge n 46 with hn | hn
    · rw [byteAt_cellOf_header hl hn, byteAt_set_ne _ _ h1, byteAt_take _ hn]
    · rw [byteAt_cellOf_payload hl (by omega), byteAt_drop, Nat.add_sub_cancel' (by omega)]
  · have type : byteAt ((received.take 46).set 1 next) 0 = 5#8 := by rw [byteAt_set_ne _ _ (by decide), byteAt_take _ (by decide), h5]
    have arg : byteAt ((received.take 46).set 1 next) 1 = next := byteAt_set_self _ (by rw [htake]; decide)
    rw [decodeCell_cellOf hl hp, decodeHeader, type, arg]
    rfl

/-- Settles O14: the header check by the bits of R176, the cells by `cellOf`'s parts, the record by `readWindow_rawOf`. -/
theorem windowBytesReadBack : Obligations.WindowBytesReadBack := by
  unfold Obligations.WindowBytesReadBack
  refine ⟨fun r h => ?_, rfl, fun h b => ?_, headerCheck_self, fun tick cell hl h => decodeCell_failed hl h tick,
    fun received => ⟨rfl, rfl, fun r => reply_cell received, fill_cell received, enum_cell⟩⟩
  · rw [windowBytes_eq, rawWindowAt_rawBytes]
    exact ⟨rawBytes_length _, readWindow_rawOf h⟩
  · rw [headerCheck_append, List.foldl_cons, List.foldl_nil, crcByte_eq]

end Sys2Proof.Proofs
end

section
/-! PROOFS. What transitions, freezes, pins, the raster and genlock rest on: the facets of the state that their legality reads, and for
every operation the facets it may alter. -/

namespace Sys2Proof.Proofs

open Sys2Proof.Machine Sys2Proof.Claims Sys2Proof.Safety

/-- The facets of the state that the legality of transitions, freezes, raster and genlock reads. -/
inductive Facet where
  | active | transitions | freezes | bindings | pins | live | rgu | scanout
deriving DecidableEq

/-- A facet is as it was; of a pinned slot, that it is COMPLETE still; of a store, that it is LIVE still; of FMC, that no fetch waits and
no pixel stands fetched that did not before, or was not waited for. -/
def Same : Facet → State → State → Prop
  | .active, s, t => ∀ o, (t.output o).active = (s.output o).active
  | .transitions, s, t => t.transitions = s.transitions
  | .freezes, s, t => t.freezes = s.freezes
  | .bindings, s, t => ∀ i, (t.store i).binding = (s.store i).binding
  | .pins, s, t => ∀ i k, ((t.store i).slot k).pins = ((s.store i).slot k).pins
      ∧ (0 < ((s.store i).slot k).pins → ((s.store i).slot k).number?.isSome = true → ((t.store i).slot k).number?.isSome = true)
  | .live, s, t => ∀ i, (s.store i).state = .live → (t.store i).state = .live
  | .rgu, s, t => t.rgu = s.rgu
  | .scanout, s, t => (∀ f ∈ t.fmc.fetches, f ∈ s.fmc.fetches)
      ∧ ∀ o, (tget t.samples o).isSome = true → (tget s.samples o).isSome = true ∨ ∃ f, f ∈ s.fmc.fetches

theorem Same.refl (p : Facet) (s : State) : Same p s s := by
  cases p <;> simp [Same]
  exact fun _ h => .inl h

theorem Same.trans {p : Facet} {s t u : State} (h : Same p s t) (k : Same p t u) : Same p s u := by
  cases p
  case scanout =>
    obtain ⟨hf, hs⟩ := h
    obtain ⟨kf, ks⟩ := k
    refine ⟨fun f hm => hf f (kf f hm), fun o ho => ?_⟩
    rcases ks o ho with hm | ⟨f, hm⟩
    · exact hs o hm
    · exact .inr ⟨f, hf f hm⟩
  all_goals simp_all [Same]

/-- From `s` to `t` no facet but those of `l` has been altered. -/
def Alters (l : List Facet) (s t : State) : Prop := ∀ p, p ∉ l → Same p s t

variable {l : List Facet} {s t u : State}

theorem Alters.refl (l : List Facet) (s : State) : Alters l s s := fun p _ => Same.refl p s

/-- The last step first. -/
theorem Alters.after (k : Alters l t u) (h : Alters l s t) : Alters l s u := fun p hp => (h p hp).trans (k p hp)

theorem Alters.mono {l' : List Facet} (h : Alters l s t) (hl : l ⊆ l') : Alters l' s t := fun p hp => h p fun hm => hp (hl hm)

/-- What alters nothing is within every bound. -/
theorem Alters.any (h : Alters [] s t) : Alters l s t := h.mono (List.nil_subset l)

theorem Alters.ite {c : Prop} [Decidable c] (h : Alters l s t) (k : Alters l s u) : Alters l s (if c then t else u) := by
  split
  · exact h
  · exact k

theorem Alters.foldl {α : Type} {f : State → α → State} (h : ∀ s x, Alters l s (f s x)) (xs : List α) (s : State) :
    Alters l s (xs.foldl f s) := by
  induction xs generalizing s with
  | nil => exact .refl l s
  | cons x xs ih => exact .after (ih _) (h s x)

/-- All that the facets read. -/
def watched (s : State) : (Fin 4 → List WindowRecord) × Vector (Vector TransitionRecord 8) 4 × Vector (Vector FreezeRecord 8) 4
    × Vector Store 8 × Rgu × Fmc × Vector (Option Colour) 4 :=
  (fun o => (s.output o).active, s.transitions, s.freezes, s.stores, s.rgu, s.fmc, s.samples)

/-- An update of fields that no facet reads. -/
theorem Alters.still (h : watched t = watched s) : Alters l s t := by
  intro p _
  simp only [watched, Prod.mk.injEq, funext_iff] at h
  cases p <;> simp_all [Same, State.store]

/-! ### The updates of one entry -/

theorem raise_alters (c : Condition) (s : State) : Alters l s (s.raise c) := .still rfl

theorem raiseIf_alters (b : Bool) (c : Condition) (s : State) : Alters l s (s.raiseIf b c) :=
  .ite (raise_alters c s) (.refl l s)

/-- RGU is written. -/
theorem setRgu_alters (x : Rgu) (s : State) : Alters [.rgu] s (s.setRgu x) := by
  intro p hp
  cases p <;> simp_all [Same]

/-- RGU is written and conditions are set. -/
theorem setRgu_raiseIf_alters (x : Rgu) (b : Bool) (c : Condition) (s : State) : Alters [.rgu] s ((s.setRgu x).raiseIf b c) :=
  .after (raiseIf_alters b c _) (setRgu_alters x s)

theorem setTransition_alters (o : Fin 4) (w : Fin 8) (x : TransitionRecord) (s : State) :
    Alters [.transitions] s (s.setTransition o w x) := by
  intro p hp
  cases p <;> simp_all [Same]

theorem setFreeze_alters (o : Fin 4) (w : Fin 8) (x : FreezeRecord) (s : State) : Alters [.freezes] s (s.setFreeze o w x) := by
  intro p hp
  cases p <;> simp_all [Same]

/-- An output is written, its active bank as it was. -/
theorem setOutput_alters {o : Fin 4} {x : Output} {s : State} (h : x.active = (s.output o).active) :
    Alters l s (s.setOutput o x) := by
  have active : (fun o' => ((s.setOutput o x).output o').active) = fun o' => (s.output o').active := by
    funext o'
    rw [State.setOutput_output]
    split
    · subst_vars; exact h
    · rfl
  exact .still (by rw [watched, active]; rfl)

/-- What a store is written with, for the facets that read it to stay: its binding and pins, what is pinned and COMPLETE, and LIVE. -/
structure StoreKept (st x : Store) : Prop where
  binding : x.binding = st.binding
  live : st.state = .live → x.state = .live
  pins : ∀ k, (x.slot k).pins = (st.slot k).pins
  complete : ∀ k, 0 < (st.slot k).pins → (st.slot k).number?.isSome = true → (x.slot k).number?.isSome = true

theorem setStore_kept {i : Fin 8} {x : Store} {s : State} (h : StoreKept (s.store i) x) : Alters l s (s.setStore i x) := by
  intro p _
  have store : ∀ j, (s.setStore i x).store j = s.store j ∨ j = i ∧ (s.setStore i x).store j = x := fun j => by
    by_cases hj : i = j <;> simp [hj]
  cases p
  case bindings => intro j; rcases store j with e | ⟨rfl, e⟩ <;> rw [e]; exact h.binding
  case live => intro j hj; rcases store j with e | ⟨rfl, e⟩ <;> rw [e]; exacts [hj, h.live hj]
  case pins => intro j k; rcases store j with e | ⟨rfl, e⟩ <;> rw [e]; exacts [⟨rfl, fun _ => id⟩, ⟨h.pins k, h.complete k⟩]
  case scanout => exact ⟨fun _ => id, fun _ => .inl⟩
  all_goals simp [Same]

end Sys2Proof.Proofs
end

section
/-! PROOFS. Picture traffic and frame memory's users, each with the facets it may alter (R52 to R61, R45). -/

namespace Sys2Proof.Proofs

open Sys2Proof.Machine Sys2Proof.Claims Sys2Proof.Safety

variable {l : List Facet} {s t : State}

/-! ### Slots -/

/-- A slot has a completion number exactly while it is COMPLETE (R52). -/
theorem number?_eq_some {r : SlotRecord} {n : Nat} : r.number? = some n ↔ CompleteAs r n := by
  obtain ⟨frame, selected, pins⟩ := r
  rcases frame with _ | ⟨_ | _ | m | _, tag, width, height, cells, next⟩ <;> simp [SlotRecord.number?, CompleteAs]

theorem number?_of_frame {r : SlotRecord} {f : FrameInfo} (h : r.frame = some f) (hf : ∀ n, f.phase ≠ .complete n) :
    r.number? = none := by
  refine Option.eq_none_iff_forall_ne_some.2 fun n hn => ?_
  obtain ⟨g, hg, hp⟩ := number?_eq_some.1 hn
  rw [h] at hg
  cases hg
  exact hf n hp

theorem filling_iff {r : SlotRecord} : r.filling = true ↔ ∃ f, r.frame = some f ∧ f.phase = .filling := by
  obtain ⟨frame, selected, pins⟩ := r
  rcases frame with _ | ⟨_ | _ | m | _, tag, width, height, cells, next⟩ <;> simp [SlotRecord.filling]

/-- A FILLING slot is not COMPLETE. -/
theorem number?_of_filling {r : SlotRecord} (h : r.filling = true) : r.number? = none := by
  obtain ⟨f, hf, hp⟩ := filling_iff.1 h
  exact number?_of_frame hf (by simp [hp])

theorem fillingSlot_filling {st : Store} {k : Fin 3} (h : st.fillingSlot = some k) : (st.slot k).filling = true :=
  List.find?_some (p := fun k => (st.slot k).filling) h

/-- The frame that a cell's tag matches is that of a FILLING slot (R57, R58). -/
theorem matching_filling {st : Store} {tag : Byte} {k : Fin 3} {f : FrameInfo} (h : st.matching tag = some (k, f)) :
    (st.slot k).filling = true := by
  unfold Store.matching at h
  split at h
  · cases h
  · rename_i j hj
    split at h
    · split at h <;> cases h
      exact fillingSlot_filling hj
    · cases h

/-- Only a slot that is not both pinned and COMPLETE is written, its pins as they were. -/
theorem storeKept_setSlot {st : Store} {k : Fin 3} {r : SlotRecord} (hp : r.pins = (st.slot k).pins)
    (hk : (st.slot k).pins = 0 ∨ (st.slot k).number? = none) : StoreKept st (st.setSlot k r) where
  binding := rfl
  live := id
  pins j := by
    rw [Store.setSlot_slot]
    split
    · subst_vars; exact hp
    · rfl
  complete j hpos hc := by
    rw [Store.setSlot_slot]
    split
    · subst_vars
      rcases hk with h | h
      · omega
      · rw [h] at hc; cases hc
    · exact hc

theorem StoreKept.refl (st : Store) : StoreKept st st := ⟨rfl, id, fun _ => rfl, fun _ _ => id⟩

theorem StoreKept.trans {x y z : Store} (h : StoreKept x y) (k : StoreKept y z) : StoreKept x z where
  binding := k.binding.trans h.binding
  live := k.live ∘ h.live
  pins j := (k.pins j).trans (h.pins j)
  complete j hp hc := k.complete j (h.pins j ▸ hp) (h.complete j hp hc)

/-- Counters, the dropping mark and the silence of a store are not read. -/
theorem StoreKept.counted {st x y : Store} (h : StoreKept st x) (hy : (y.binding, y.state, y.slots) = (x.binding, x.state, x.slots)) :
    StoreKept st y := by
  simp only [Prod.mk.injEq] at hy
  obtain ⟨hb, hs, hk⟩ := hy
  have slot : ∀ k, y.slot k = x.slot k := fun k => by rw [Store.slot, hk, Store.slot]
  exact ⟨hb.trans h.binding, hs ▸ h.live, fun k => slot k ▸ h.pins k, fun k => slot k ▸ h.complete k⟩

/-! ### Picture cells -/

theorem setStore_counted_alters {i : Fin 8} {x : Store} {s : State}
    (hx : (x.binding, x.state, x.slots) = ((s.store i).binding, (s.store i).state, (s.store i).slots)) :
    Alters l s (s.setStore i x) := setStore_kept ((StoreKept.refl _).counted hx)

theorem damageFrame_alters {i : Fin 8} {k : Fin 3} {s : State} (h : ((s.store i).slot k).filling = true) :
    Alters l s (damageFrame i k s) :=
  .after (raise_alters _ _) (setStore_kept (.counted (storeKept_setSlot (r := ((s.store i).slot k).damage) rfl (.inr (number?_of_filling h))) rfl))

theorem endUnclosed_alters (i : Fin 8) (s : State) : Alters l s (endUnclosed i s) := by
  unfold endUnclosed
  split
  · exact damageFrame_alters (fillingSlot_filling ‹_›)
  · exact .refl l s

/-- The slot chosen for a new frame is not pinned (R55). -/
theorem choice_unpinned {st : Store} {k : Fin 3} {lost : Bool} (h : st.choice = some (k, lost)) : (st.slot k).pins = 0 := by
  have candidate : (st.slot k).candidate = true := by
    unfold Store.choice at h
    split at h
    · rename_i j hj
      cases h
      have := List.find?_some hj
      simp_all
    · split at h
      · rename_i j hj
        cases h
        have := List.find?_some hj
        simp_all [Store.replaceable]
      · split at h
        · split at h <;> cases h
          assumption
        · cases h
  simp_all [SlotRecord.candidate]

theorem chooseSlot_alters (i : Fin 8) (tag : Byte) (width height cells : Nat) (s : State) :
    Alters l s (chooseSlot i tag width height cells s) := by
  unfold chooseSlot
  simp only
  split
  · rename_i k lost hc
    refine .after (raiseIf_alters _ _ _) (setStore_kept ?_)
    have kept : StoreKept (s.store i) ((s.store i).setSlot k (((s.store i).slot k).begin tag width height cells)) :=
      storeKept_setSlot rfl (.inl (choice_unpinned hc))
    cases lost
    · exact kept
    · exact kept.counted rfl
  · exact .after (raise_alters _ _) (setStore_counted_alters rfl)

theorem storeOpen_alters (i : Fin 8) (tag : Byte) (width height cells : Nat) (s : State) :
    Alters l s (storeOpen i tag width height cells s) := by
  have arrived : Alters l s (s.setStore i (s.store i).arrival) := setStore_counted_alters rfl
  exact .ite (.after (chooseSlot_alters i tag width height cells _)
      (.after (setStore_counted_alters (x := { (endUnclosed i _).store i with dropping := false }) rfl)
        (.after (endUnclosed_alters i _) arrived)))
    (.after (setStore_counted_alters rfl) arrived)

theorem queue_alters (x : List QueueEntry) (s : State) : Alters l s { s with queue := x } := .still rfl

theorem matchPic_alters (i : Fin 8) (tag : Byte) (sequence line first : Nat) (pixels : List Colour) (s : State) :
    Alters l s (matchPic i tag sequence line first pixels s) := by
  unfold matchPic
  split
  · exact setStore_counted_alters rfl
  · rename_i k f hm
    have filling := matching_filling hm
    exact .ite (damageFrame_alters filling) (.ite (.after (raise_alters _ _) (damageFrame_alters filling))
      (.after (queue_alters _ _) (setStore_kept (storeKept_setSlot rfl (.inr (number?_of_filling filling))))))

theorem storePic_alters (i : Fin 8) (tag : Byte) (sequence line first count : Nat) (pixels : List Colour) (s : State) :
    Alters l s (storePic i tag sequence line first count pixels s) := by
  have arrived : Alters l s (s.setStore i (s.store i).arrival) := setStore_counted_alters rfl
  exact .ite arrived (.ite (.after (matchPic_alters i tag sequence line first pixels _) arrived)
    (.after (setStore_counted_alters rfl) arrived))

theorem matchClose_alters (i : Fin 8) (tag : Byte) (cells : Nat) (s : State) : Alters l s (matchClose i tag cells s) := by
  unfold matchClose
  split
  · exact setStore_counted_alters rfl
  · rename_i k f hm
    have filling := matching_filling hm
    exact .ite (damageFrame_alters filling) (.ite (.after (raise_alters _ _) (damageFrame_alters filling))
      (.after (queue_alters _ _) (setStore_kept (storeKept_setSlot rfl (.inr (number?_of_filling filling))))))

theorem storeClose_alters (i : Fin 8) (tag : Byte) (cells : Nat) (s : State) : Alters l s (storeClose i tag cells s) := by
  have arrived : Alters l s (s.setStore i (s.store i).arrival) := setStore_counted_alters rfl
  exact .ite arrived (.after (matchClose_alters i tag cells _) arrived)

theorem forStore_alters {src : Fin 16} {f : Fin 8 → State → State} (h : ∀ i s, Alters l s (f i s)) (s : State) :
    Alters l s (forStore src f s) := by
  unfold forStore
  split
  · exact .refl l s
  · exact h _ s

theorem surveyCell_alters (src : Fin 16) (f : SurveyRecord → SurveyRecord) (s : State) : Alters l s (surveyCell src f s) :=
  .ite (.still rfl) (.refl l s)

theorem capture_alters (src : Fin 16) (s : State) : Alters [.rgu] s (capture src s) := .ite (setRgu_alters _ s) (.refl _ s)

theorem moveTick_alters (n : Nat) (s : State) : Alters [.rgu, .scanout] s (moveTick n s) := by
  intro p hp
  cases p <;> simp_all [Same, State.output, State.store]

theorem reachTick_alters (tick : Nat) (s : State) : Alters [.rgu, .scanout] s (reachTick tick s) :=
  .ite (moveTick_alters _ s) (.refl _ s)

theorem takeOpen_alters (source tag : Byte) (width height cells : Half) (tick : Nat) (s : State) :
    Alters [.rgu, .scanout] s (takeOpen source tag width height cells tick s) := by
  have reached := reachTick_alters tick s
  unfold takeOpen
  simp only
  split
  · exact reached
  · exact .after (forStore_alters (fun i s => storeOpen_alters i _ _ _ _ s) _)
      (.after ((capture_alters _ _).mono (by decide)) (.after (surveyCell_alters _ _ _) reached))

theorem takePic_alters (source tag : Byte) (sequence line first : Half) (count : Byte) (pixels : List Word) (s : State) :
    Alters l s (takePic source tag sequence line first count pixels s) := by
  unfold takePic
  split
  · exact .refl l s
  · exact .after (forStore_alters (fun i s => storePic_alters i _ _ _ _ _ _ s) _) (surveyCell_alters _ _ s)

theorem takeClose_alters (source tag : Byte) (cells : Half) (s : State) : Alters l s (takeClose source tag cells s) := by
  unfold takeClose
  split
  · exact .refl l s
  · exact forStore_alters (fun i s => storeClose_alters i _ _ s) s

/-! ### The frame memory controller -/

theorem scanout_alters {x : Fmc} {v : Vector (Option Colour) 4} {s : State} (hf : ∀ f ∈ x.fetches, f ∈ s.fmc.fetches)
    (hv : ∀ o, (tget v o).isSome = true → (tget s.samples o).isSome = true ∨ ∃ f, f ∈ s.fmc.fetches) :
    Alters l s { s with fmc := x, samples := v } := by
  intro p _
  cases p
  case scanout => exact ⟨hf, hv⟩
  all_goals simp [Same, State.output, State.store]

theorem grantFetch_alters {f : Fetch} {s : State} (h : f ∈ s.fmc.fetches) : Alters l s (grantFetch f s) :=
  scanout_alters (fun _ => List.mem_of_mem_erase) fun o ho => by
    rw [tget_tset] at ho
    split at ho
    · exact .inr ⟨f, h⟩
    · exact .inl ho

theorem serveUpTo_alters (n : Nat) (s : State) : Alters l s (serveUpTo n s) := by
  induction n generalizing s with
  | zero => exact .refl l s
  | succ n ih =>
    unfold serveUpTo
    split
    · rename_i f hf
      rcases arbitrate_cases hf with ⟨g, hg, hfg⟩ | ⟨-, -, hq⟩
      · cases hfg
        exact .after (ih _) (grantFetch_alters hg)
      · cases hq
    · exact .refl l s

theorem serveFetches_alters (s : State) : Alters l s (serveFetches s) := serveUpTo_alters _ s

theorem grantHead_alters (rest : List QueueEntry) (s : State) : Alters l s (grantHead rest s) :=
  .after (t := { s with fmc := { s.fmc with grant := some .queueHead } }) (.still rfl)
    (scanout_alters (x := { s.fmc with grant := some .queueHead }) (v := s.samples) (fun _ => id) fun _ => .inl)

theorem memory_alters (m : List (Nat × Colour)) (s : State) : Alters l s { s with memory := m } := .still rfl

theorem picWriteStep_alters (s : State) : Alters l s (picWriteStep s) := by
  unfold picWriteStep
  simp only
  split
  · exact .after (memory_alters _ _) (.after (grantHead_alters _ _) (serveFetches_alters s))
  · exact .refl l s

theorem renumber_pins (r : SlotRecord) (n : Nat) : (r.renumber n).pins = r.pins := by
  unfold SlotRecord.renumber
  split <;> rfl

theorem renumber_number? (r : SlotRecord) (n : Nat) : (r.renumber n).number? = r.number?.map fun _ => n := by
  obtain ⟨frame, selected, pins⟩ := r
  rcases frame with _ | ⟨_ | _ | m | _, tag, width, height, cells, next⟩ <;> rfl

theorem storeKept_renumbered (st : Store) : StoreKept st st.renumbered where
  binding := rfl
  live := id
  pins k := by simp [Store.renumbered, Store.slot, renumber_pins]
  complete k _ hc := by simpa [Store.renumbered, Store.slot, renumber_number?] using hc

theorem storeKept_ready (st : Store) : StoreKept st st.readyToComplete := by
  unfold Store.readyToComplete
  split
  · exact storeKept_renumbered st
  · exact .refl st

theorem storeKept_complete (st : Store) (k : Fin 3) (f : FrameInfo) : StoreKept st (st.complete k f) := by
  refine (storeKept_ready st).trans ⟨rfl, fun h => ?_, fun j => ?_, fun j _ hc => ?_⟩
  · simp [Store.complete, h, completedState]
  · show ((st.readyToComplete.setSlot k _).slot j).pins = _
    rw [Store.setSlot_slot]
    split
    · subst_vars; rfl
    · rfl
  · show ((st.readyToComplete.setSlot k _).slot j).number?.isSome = true
    rw [Store.setSlot_slot]
    split
    · rfl
    · exact hc

theorem completeSlot_alters (i : Fin 8) (k : Fin 3) (s : State) : Alters l s (completeSlot i k s) := by
  unfold completeSlot
  split
  · exact .ite (setStore_kept (storeKept_complete _ _ _)) (.refl l s)
  · exact .refl l s

theorem completionStep_alters (s : State) : Alters l s (completionStep s) := by
  unfold completionStep
  simp only
  split
  · exact .after (completeSlot_alters _ _ _) (.after (grantHead_alters _ _) (serveFetches_alters s))
  · exact .refl l s

end Sys2Proof.Proofs
end

section
/-! PROOFS. The other blocks, each with the facets it may alter, and so every command. -/

namespace Sys2Proof.Proofs

open Sys2Proof.Machine Sys2Proof.Claims Sys2Proof.Safety

variable {l : List Facet} {s t : State}

/-! ### Stores, freezes and the genlock reference -/

theorem pinSlot_alters (i : Fin 8) (k : Fin 3) (s : State) : Alters [.pins] s (pinSlot i k s) := by
  intro p hp
  cases p <;> simp_all [Same, pinSlot]
  · intro j; split <;> simp_all
  · intro j hj; split <;> simp_all

theorem unpinSlot_alters (i : Fin 8) (k : Fin 3) (s : State) : Alters [.pins] s (unpinSlot i k s) := by
  intro p hp
  cases p <;> simp_all [Same, unpinSlot]
  · intro j; split <;> simp_all
  · intro j hj; split <;> simp_all

/-- The facets that a freeze taken or released alters. -/
def freezeFacets : List Facet := [.transitions, .freezes, .pins]

theorem takeFreeze_alters (o : Fin 4) (w i : Fin 8) (k : Fin 3) (shared : Bool) (s : State) :
    Alters freezeFacets s (takeFreeze o w i k shared s) :=
  .after ((setTransition_alters _ _ _ _).mono (by decide))
    (.after ((setFreeze_alters _ _ _ _).mono (by decide)) ((pinSlot_alters i k s).mono (by decide)))

theorem releaseFreeze_alters (o : Fin 4) (w : Fin 8) (s : State) : Alters freezeFacets s (releaseFreeze o w s) := by
  unfold releaseFreeze
  split
  · exact .after ((setFreeze_alters _ _ _ _).mono (by decide)) ((unpinSlot_alters _ _ s).mono (by decide))
  · exact (setFreeze_alters _ _ _ _).mono (by decide)
  · exact .refl _ s

theorem leaveLive_alters (src : Fin 16) (s : State) : Alters [.rgu] s (leaveLive src s) :=
  .ite (.after (raiseIf_alters _ _ _) (.after (raise_alters _ _) (setRgu_alters _ s))) (.refl _ s)

/-! ### The output frame end -/

/-- A store is written, its binding, slots and pins as they were. -/
theorem setStore_live_alters {i : Fin 8} {x : Store} {s : State} (hl : Facet.live ∈ l)
    (hb : x.binding = (s.store i).binding) (hk : x.slots = (s.store i).slots) : Alters l s (s.setStore i x) := by
  intro p hp
  have slot : ∀ k, x.slot k = (s.store i).slot k := fun k => by rw [Store.slot, hk, Store.slot]
  cases p <;> simp_all [Same]
  · intro j; split <;> simp_all
  · intro j k; split <;> simp_all

theorem countSilence_alters (i : Fin 8) (s : State) : Alters [.live, .rgu] s (countSilence i s) := by
  simp only [countSilence]
  split
  · exact .refl _ s
  · rename_i src _
    have stored : ∀ n st, Alters [.live, .rgu] s (s.setStore i { s.store i with silence := n, state := st }) :=
      fun n st => setStore_live_alters (by decide) rfl rfl
    have counted : ∀ n st b b', Alters [.live, .rgu] s
        (((s.setStore i { s.store i with silence := n, state := st }).raiseIf b .sourceStale).raiseIf b' .sourceLost) :=
      fun n st b b' => .after (raiseIf_alters _ _ _) (.after (raiseIf_alters _ _ _) (stored n st))
    exact .ite (.after ((leaveLive_alters src _).mono (by decide)) (counted _ _ _ _)) (counted _ _ _ _)

theorem silencePart_alters (s : State) : Alters [.live, .rgu] s (silencePart s) :=
  .foldl (fun s i => .ite (.refl _ s) (countSilence_alters i s)) _ s

theorem select_slot (st : Store) (k : Fin 3) : st.select.slot k = { st.slot k with selected := decide (st.newest = some k) } := by
  simp [Store.select, Store.slot]

theorem selectStore_alters (i : Fin 8) (s : State) : Alters l s (selectStore i s) :=
  .ite (setStore_kept ⟨rfl, id, fun k => by rw [select_slot], fun k _ h => by rw [select_slot]; exact h⟩) (.refl l s)

theorem selectionPart_alters (s : State) : Alters l s (selectionPart s) := .foldl (fun s i => selectStore_alters i s) _ s

theorem swapFreeze_alters (new : Option WindowRecord) (o : Fin 4) (w : Fin 8) (s : State) :
    Alters freezeFacets s (swapFreeze new o w s) := by
  unfold swapFreeze
  split
  · exact .refl _ s
  · exact .ite (.refl _ s) (releaseFreeze_alters o w s)
  · exact .ite (.refl _ s) (releaseFreeze_alters o w s)

theorem setFormer_alters (o : Fin 4) (w : Fin 8) (x : Option (Option Content)) (s : State) : Alters l s (s.setFormer o w x) :=
  .still rfl

theorem swapWindow_alters (o : Fin 4) (s : State) (w : Fin 8) : Alters freezeFacets s (swapWindow o s w) :=
  .after (swapFreeze_alters _ o w _) (.after ((setTransition_alters _ _ _ _).mono (by decide)) (setFormer_alters _ _ _ s))

theorem setOutput_active_alters (o : Fin 4) (x : Output) (s : State) : Alters [.active] s (s.setOutput o x) := by
  intro p hp
  cases p <;> simp_all [Same]

/-- The facets that a bank swap alters. -/
def swapFacets : List Facet := .active :: freezeFacets

theorem swapOutput_alters (o : Fin 4) (s : State) : Alters swapFacets s (swapOutput o s) :=
  .ite (.after ((setOutput_active_alters _ _ _).mono (by decide)) (Alters.foldl (swapWindow_alters o) _ s |>.mono (by decide)))
    (.refl _ s)

theorem swapPart_alters (s : State) : Alters swapFacets s (swapPart s) := .foldl (fun s o => swapOutput_alters o s) _ s

theorem transitionPart_alters (s : State) : Alters [.transitions] s (transitionPart s) := by
  intro p hp
  cases p <;> simp_all [Same, transitionPart, State.output, State.store]

theorem mark_alters (x : FrameEndMark) (s : State) : Alters l s (s.mark x) := .still rfl

theorem askStart_alters (r : Fin 4) (b : Shown) (style : Style) (duration : Nat) (s : State) (ow : Fin 4 × Fin 8) :
    Alters [.transitions] s (askStart r b style duration s ow) := by
  unfold askStart
  split
  · exact .refl _ s
  · exact .ite (.refl _ s) (.ite (setTransition_alters _ _ _ s) (.after (mark_alters _ _) (setTransition_alters _ _ _ s)))

theorem askStarts_alters (r : Fin 4) (b : Shown) (style : Style) (duration : Nat) (s : State) :
    Alters [.transitions] s (askStarts r b style duration s) := .foldl (askStart_alters r b style duration) _ s

theorem setList_alters (r : Fin 4) (x : RotationList) (s : State) : Alters l s (s.setList r x) := .still rfl

theorem advanceList_alters (r : Fin 4) (s : State) : Alters [.transitions] s (advanceList r s) := by
  simp only [advanceList]
  split
  · exact setList_alters _ _ s
  · exact .after (setList_alters _ _ _) (askStarts_alters _ _ _ _ s)

theorem applyStaged_alters (r : Fin 4) (st : StagedList) (s : State) : Alters [.transitions] s (applyStaged r st s) := by
  unfold applyStaged
  split
  · exact setList_alters _ _ s
  · exact .after (setList_alters _ _ _) (askStarts_alters _ _ _ _ s)

theorem listFrameEnd_alters (r : Fin 4) (s : State) : Alters [.transitions] s (listFrameEnd r s) := by
  simp only [listFrameEnd]
  split
  · exact applyStaged_alters r _ s
  · exact .ite (.refl _ s) (.ite (advanceList_alters r s) (setList_alters _ _ s))

theorem listPart_alters (s : State) : Alters [.transitions] s (listPart s) :=
  .foldl (fun s r => .ite (.refl _ s) (listFrameEnd_alters r s)) _ s

theorem takeArmed_alters (o : Fin 4) (w : Fin 8) (s : State) : Alters freezeFacets s (takeArmed o w s) := by
  unfold takeArmed
  split
  · rename_i tag i _
    have selected : Alters freezeFacets s (selectStore i s) := selectStore_alters i s
    simp only
    split
    · exact selected
    · refine .ite ?_ selected
      split
      · exact .after (takeFreeze_alters _ _ _ _ _ _) selected
      · exact .after (takeFreeze_alters _ _ _ _ _ _) selected
      · exact selected
  · exact .refl _ s

theorem freezePart_alters (s : State) : Alters freezeFacets s (freezePart s) := by
  rw [freezePart]
  generalize allWindows = windows
  exact .foldl (fun s ow => takeArmed_alters ow.1 ow.2 s) windows s

theorem surveyPart_alters (s : State) : Alters l s (surveyPart s) := .ite (.refl l s) (.still rfl)

theorem applyRaster_alters (s : State) : Alters [.rgu] s (applyRaster s) := by
  unfold applyRaster
  split
  · exact .refl _ s
  · exact .ite (setRgu_alters _ s) (setRgu_raiseIf_alters _ _ _ s)

theorem genlockWork_alters (s : State) : Alters [.rgu] s (genlockWork s) := by
  unfold genlockWork
  simp only
  split
  · exact setRgu_alters _ s
  · exact setRgu_alters _ s
  · exact setRgu_raiseIf_alters _ _ _ s

/-- The facets that each part of an output frame end may alter. -/
def partFacets : FrameEndPart → List Facet
  | .silence => [.live, .rgu]
  | .swap => swapFacets
  | .transitions => [.transitions]
  | .lists => [.transitions]
  | .freezes => freezeFacets
  | .count => [.rgu]
  | .raster => [.rgu]
  | .genlock => [.rgu]
  | _ => []

theorem framePart_alters (x : FrameEndPart) (s : State) : Alters (partFacets x) s (framePart x s) :=
  match x with
  | .silence => silencePart_alters s
  | .selection => selectionPart_alters s
  | .swap => swapPart_alters s
  | .transitions => transitionPart_alters s
  | .lists => listPart_alters s
  | .freezes => freezePart_alters s
  | .survey => surveyPart_alters s
  | .count => setRgu_alters _ s
  | .raster => .ite (.refl _ s) (applyRaster_alters s)
  | .genlock => .ite (.refl _ s) (genlockWork_alters s)

theorem closeFrame_alters (s : State) : Alters [.rgu] s (closeFrame s) := by
  intro p hp
  cases p <;> simp_all [Same, closeFrame, Fmc.reset, State.output, State.store]

theorem frameStart_alters (s : State) : Alters [.rgu] s (frameStart s) :=
  .after (t := s.setRgu (fixFrame s.rgu)) (.still rfl) (setRgu_alters _ s)

/-! ### The layout unit, and the cues that act on it -/

theorem forOutputs_alters {mask : BitVec 4} {f : Fin 4 → State → State} (h : ∀ o s, Alters l s (f o s)) (s : State) :
    Alters l s (forOutputs mask f s) := .foldl (fun s o => h o s) _ s

theorem recallInto_alters (n : Fin 8) (o : Fin 4) (s : State) : Alters l s (recallInto n o s) := by
  unfold recallInto
  split
  · exact .refl l s
  · exact .after (raiseIf_alters _ _ _) (setOutput_alters rfl)

theorem setMode_alters (m : OutputMode) (o : Fin 4) (s : State) : Alters l s (setMode m o s) := setOutput_alters rfl

theorem armOutput_alters (o : Fin 4) (s : State) : Alters l s (armOutput o s) := setOutput_alters rfl

theorem takeAction_alters (a : CueAction) (s : State) : Alters l s (takeAction a s) := by
  unfold takeAction
  split
  · exact forOutputs_alters (recallInto_alters _) s
  · exact forOutputs_alters (setMode_alters _) s

theorem setCue_alters (c : Fin 16) (x : Option Cue) (s : State) : Alters l s (s.setCue c x) := .still rfl

theorem evaluateCue_alters (c : Clock) (s : State) (i : Fin 16) : Alters l s (evaluateCue c s i) := by
  unfold evaluateCue
  split
  · exact .refl l s
  · exact .after (setCue_alters _ _ _) (.ite (.after (raise_alters _ _) (takeAction_alters _ s)) (.refl l s))

theorem takeTimebase_alters (weekday hour minute second frame : Byte) (s : State) :
    Alters l s (takeTimebase weekday hour minute second frame s) := by
  unfold takeTimebase
  split
  · exact .refl l s
  · exact .after (t := { s with clock := some _ }) (.foldl (fun s i => evaluateCue_alters _ s i) _ _) (.still rfl)

theorem editPending_alters (o : Fin 4) (x : List WindowRecord) (s : State) : Alters l s (editPending o x s) :=
  setOutput_alters rfl

theorem winsetAnswer_alters (output : Byte) (raw : RawWindow) (s : State) : Alters l s (winsetAnswer output raw s).state := by
  unfold winsetAnswer
  split
  · split
    · exact .refl l s
    · split
      · exact .refl l s
      · unfold placeWindow
        simp only
        split
        · exact editPending_alters _ _ s
        · split
          · exact .refl l s
          · exact editPending_alters _ _ s
  · exact .refl l s

theorem windropAnswer_alters (output window : Byte) (s : State) : Alters l s (windropAnswer output window s).state := by
  unfold windropAnswer
  split
  · split
    · exact .refl l s
    · split
      · exact .refl l s
      · exact editPending_alters _ _ s
  · exact .refl l s

theorem winmoveAnswer_alters (output window target : Byte) (s : State) :
    Alters l s (winmoveAnswer output window target s).state := by
  unfold winmoveAnswer
  split
  · split
    · exact .refl l s
    · split
      · exact .refl l s
      · exact editPending_alters _ _ s
  · exact .refl l s

theorem discardAnswer_alters (output : Byte) (s : State) : Alters l s (discardAnswer output s).state := by
  unfold discardAnswer
  split
  · exact .refl l s
  · exact (by split; exacts [.refl l s, setOutput_alters rfl])

theorem commitAnswer_alters (mask : Byte) (s : State) : Alters l s (commitAnswer mask s).state := by
  unfold commitAnswer
  split
  · exact .refl l s
  · exact forOutputs_alters armOutput_alters s

theorem outmodeAnswer_alters (mask mode : Byte) (s : State) : Alters l s (outmodeAnswer mask mode s).state := by
  unfold outmodeAnswer
  split
  · exact forOutputs_alters (setMode_alters _) s
  · exact .refl l s

theorem presaveAnswer_alters (output preset : Byte) (s : State) : Alters l s (presaveAnswer output preset s).state := by
  unfold presaveAnswer
  split
  · exact setOutput_alters rfl
  · exact .refl l s

theorem recallAnswer_alters (mask preset : Byte) (s : State) : Alters l s (recallAnswer mask preset s).state := by
  unfold recallAnswer
  split
  · split
    · exact .refl l s
    · split
      · exact .refl l s
      · exact forOutputs_alters (recallInto_alters _) s
  · exact .refl l s

theorem recallAll_alters (mask preset : Byte) (s : State) : Alters l s (recallAll mask preset s) := by
  unfold recallAll
  split
  · exact forOutputs_alters (recallInto_alters _) s
  · exact .refl l s

end Sys2Proof.Proofs
end

section
/-! PROOFS. What a command may alter: the answers of the requests, the trunk, and `exec` as a whole. -/

namespace Sys2Proof.Proofs

open Sys2Proof.Machine Sys2Proof.Claims Sys2Proof.Safety

variable {l : List Facet} {s t : State}

/-! ### The answers of the requests -/

/-- An answer that leaves the state as it is. -/
theorem alters_of_eq (h : t = s) : Alters l s t := by rw [h]; exact .refl l s

theorem statusAnswer_alters (page : Byte) (s : State) : Alters l s (statusAnswer page s).state :=
  alters_of_eq (by unfold statusAnswer; split <;> rfl)

theorem clearAnswer_alters (mask : Half) (s : State) : Alters l s (clearAnswer mask s).state := .still rfl

theorem rasterAnswer_alters (aw ah tw th : Half) (bg : Word) (s : State) :
    Alters [.rgu] s (rasterAnswer aw ah tw th bg s).state := by
  unfold rasterAnswer
  split
  · exact .refl _ s
  · exact setRgu_alters _ s

theorem silenceAnswer_alters (hold : Byte) (loss : Half) (s : State) : Alters l s (silenceAnswer hold loss s).state := by
  unfold silenceAnswer
  split
  · split
    · exact .still rfl
    · exact .refl l s
  · exact .refl l s

theorem winreadAnswer_alters (output window bank : Byte) (s : State) : Alters l s (winreadAnswer output window bank s).state := by
  refine alters_of_eq ?_
  unfold winreadAnswer
  split
  · simp only
    split <;> rfl
  · rfl

theorem rearm_alters (o : Fin 4) (w : Fin 8) (was new : Shown) (s : State) : Alters [.freezes] s (rearm o w was new s) := by
  unfold rearm
  split
  · exact .ite (.refl _ s) (setFreeze_alters _ _ _ s)
  · exact .refl _ s

/-- The facets that a TAKE alters. -/
def takeFacets : List Facet := [.active, .transitions, .freezes]

theorem takeAnswer_alters (output window kind : Byte) (value : Word) (style duration : Byte) (s : State) :
    Alters takeFacets s (takeAnswer output window kind value style duration s).state := by
  unfold takeAnswer
  split
  · split
    · exact .refl _ s
    · split
      · exact .refl _ s
      · exact .after ((setTransition_alters _ _ _ _).mono (by decide))
          (.after ((rearm_alters _ _ _ _ _).mono (by decide)) ((setOutput_active_alters _ _ s).mono (by decide)))
  · exact .refl _ s

/-- A FREEZE alters what its action does. -/
theorem freezeChecked_alters {kindOk : Bool} {output window : Byte} {s : State} {act : Fin 4 → Fin 8 → Fin 8 → Answer}
    (h : ∀ o w i, Alters l s (act o w i).state) : Alters l s (freezeChecked kindOk output window s act).state := by
  unfold freezeChecked
  split
  · split
    · exact .refl l s
    · split
      · exact .refl l s
      · split
        · exact .refl l s
        · exact h _ _ _
    · exact .refl l s
  · exact .refl l s

theorem freezeNowAnswer_alters (output window kind : Byte) (s : State) :
    Alters freezeFacets s (freezeNowAnswer output window kind s).state := by
  refine freezeChecked_alters fun o w i => ?_
  unfold freezeNowOn
  split
  · exact takeFreeze_alters _ _ _ _ _ s
  · exact takeFreeze_alters _ _ _ _ _ s
  · exact .refl _ s

theorem freezeAtAnswer_alters (output window tag : Byte) (s : State) :
    Alters [.freezes] s (freezeAtAnswer output window tag s).state :=
  freezeChecked_alters fun o w _ => setFreeze_alters o w _ s

theorem thawAnswer_alters (output window : Byte) (s : State) : Alters freezeFacets s (thawAnswer output window s).state := by
  unfold thawAnswer
  split
  · exact .after ((setTransition_alters _ _ _ _).mono (by decide)) (releaseFreeze_alters _ _ s)
  · exact .refl _ s

theorem rotsetAnswer_alters (list count : Byte) (entries : List Byte) (dwell : Half) (style duration : Byte) (s : State) :
    Alters l s (rotsetAnswer list count entries dwell style duration s).state := by
  unfold rotsetAnswer
  split
  · exact setList_alters _ _ s
  · exact .refl l s

theorem cuesetAnswer_alters (entry : Byte) (raw : RawCue) (s : State) : Alters l s (cuesetAnswer entry raw s).state := by
  unfold cuesetAnswer
  split
  · exact setCue_alters _ _ s
  · exact .refl l s

theorem cuedropAnswer_alters (entry : Byte) (s : State) : Alters l s (cuedropAnswer entry s).state := by
  unfold cuedropAnswer
  split
  · exact setCue_alters _ _ s
  · exact .refl l s

theorem genlockAnswer_alters (source : Byte) (s : State) : Alters [.rgu] s (genlockAnswer source s).state := by
  unfold genlockAnswer
  split
  · exact .refl _ s
  · exact setRgu_raiseIf_alters _ _ _ s
  · split
    · exact setRgu_raiseIf_alters _ _ _ s
    · exact .refl _ s

theorem surveyAnswer_alters (frames : Byte) (s : State) : Alters l s (surveyAnswer frames s).state := by
  unfold surveyAnswer
  split
  · exact .refl l s
  · split
    · exact .refl l s
    · exact .still rfl

theorem surveyreadAnswer_alters (source : Byte) (s : State) : Alters l s (surveyreadAnswer source s).state := by
  refine alters_of_eq ?_
  unfold surveyreadAnswer
  split
  · rfl
  · split <;> rfl

/-! ### The trunk -/

theorem send_alters (x : Sent) (s : State) : Alters l s (s.send x) := .still rfl

theorem noCell_alters (s : State) : Alters l s s.noCell := .ite (.refl l s) (send_alters _ s)

theorem goodCell_alters (s : State) : Alters l s s.goodCell := .still rfl

theorem enterHunt_alters (s : State) : Alters l s (enterHunt s) := .still rfl

theorem failedHeader_alters (s : State) : Alters l s (failedHeader s) := .ite (.still rfl) (.still rfl)

theorem goodInHunt_alters (s : State) : Alters l s (goodInHunt s) := .ite (.still rfl) (.still rfl)

theorem huntCheck_alters (header : List Byte) (check : Half) (s : State) :
    Alters l s ((if goodHeader header check then goodInHunt s else failedInHunt s).send .fill) :=
  .after (send_alters _ _) (.ite (goodInHunt_alters s) (.still rfl))

theorem loseSignal_alters (s : State) : Alters l s (loseSignal s) := .after (raiseIf_alters _ _ _) (.still rfl)

theorem beginBreak_alters (s : State) : Alters l s (beginBreak s) := .still rfl

theorem endBreak_alters (s : State) : Alters l s (endBreak s) := .after (raiseIf_alters _ _ _) (.still rfl)

theorem takeChainBreak_alters (b : Break) (s : State) : Alters l s (takeChainBreak b s) := .still rfl

theorem chainBreakStep_alters (s : State) : Alters l s (chainBreakStep s) := by
  have begun : Alters l s (if s.trx.brk.isSome = true then s else beginBreak s) := .ite (.refl l s) (beginBreak_alters s)
  unfold chainBreakStep
  simp only
  split
  · exact .ite begun (.after (takeChainBreak_alters _ _) begun)
  · exact begun

theorem takeEnum_alters (next : Byte) (s : State) : Alters l s (takeEnum next s) := .ite (.still rfl) (.still rfl)

/-- What is delivered as a cell alters what `act` does. -/
theorem onCell_alters {act : State → State} (h : ∀ s, Alters l s (act s)) (e : onCell act s = .next t) : Alters l s t := by
  cases e
  exact .ite (.after (h _) (goodCell_alters s)) (noCell_alters s)

theorem onForwarded_alters {act : State → State} (h : ∀ s, Alters l s (act s)) (e : onForwarded act s = .next t) :
    Alters l s t := onCell_alters (fun s => .after (send_alters _ _) (h s)) e

theorem onRequest_alters {q : ReqHead} {code : Byte} {own : State → Answer} {all : State → State}
    (ho : ∀ s, Alters l s (own s).state) (ha : ∀ s, Alters l s (all s)) (e : onRequest q code own all s = .next t) :
    Alters l s t :=
  onCell_alters (fun s => .ite (.after (send_alters _ _) (ha s)) (.ite (.after (send_alters _ _) (ho s)) (send_alters _ s))) e

theorem onAddressed_alters {q : ReqHead} {code : Byte} {own : State → Answer} (ho : ∀ s, Alters l s (own s).state)
    (e : onAddressed q code own s = .next t) : Alters l s t := onRequest_alters ho (fun s => .refl l s) e

theorem onEither_alters {q : ReqHead} {code : Byte} {own : State → Answer} (ho : ∀ s, Alters l s (own s).state)
    (e : onEither q code own s = .next t) : Alters l s t := onRequest_alters ho ho e

/-! ### Every command -/

/-- Every facet. -/
def allFacets : List Facet := [.active, .transitions, .freezes, .bindings, .pins, .live, .rgu, .scanout]

/-- Nothing bounds what alters every facet. -/
theorem alters_all (s t : State) : Alters allFacets s t := fun p hp => absurd (by cases p <;> decide) hp

/-- The facets that a command may alter. -/
def altered : Instr → List Facet
  | .raster _ _ _ _ _ _ => [.rgu]
  | .subscribe _ _ _ => allFacets
  | .release _ _ => allFacets
  | .take _ _ _ _ _ _ _ => takeFacets
  | .freezeNow _ _ _ _ => freezeFacets
  | .freezeAt _ _ _ _ => [.freezes]
  | .thaw _ _ _ => freezeFacets
  | .genlock _ _ => [.rgu]
  | .restart _ => allFacets
  | .frameOpen _ _ _ _ _ _ => [.rgu, .scanout]
  | .powerOn => allFacets
  | .powerOnFillEnd => [.rgu]
  | .outputFrameEnd _ => allFacets
  | .outputFrameStart => [.rgu]
  | .listAdvance _ => [.transitions]
  | .transitionEnd _ _ => [.transitions]
  | .sourceStale _ => [.live, .rgu]
  | .sourceLost _ => [.live, .rgu]
  | .genlockTrack => [.rgu]
  | .genlockLocked => [.rgu]
  | .genlockUnlocked => [.rgu]
  | _ => []

theorem silenceMove_alters (i : Fin 8) (before : List SourceState) (after : SourceState) (s : State) :
    Alters [.live, .rgu] s (silenceMove i before after s) :=
  .ite (.after (mark_alters _ _) (countSilence_alters i s)) (.refl _ s)

theorem genlockMove_alters (g g' : GenlockState) (s : State) : Alters [.rgu] s (genlockMove g g' s) :=
  .ite (.after (mark_alters _ _) (genlockWork_alters s)) (.refl _ s)

/-- A command alters only the facets it may alter. -/
theorem exec_alters {c : Instr} (e : exec c s = .next t) : Alters (altered c) s t := by
  cases c with
  | ident q => exact onAddressed_alters (own := fun s => ⟨s, .done, identResult s, none⟩) (fun s => .refl _ s) e
  | status q page => exact onAddressed_alters (statusAnswer_alters page) e
  | clear q mask => exact onEither_alters (clearAnswer_alters mask) e
  | raster q aw ah tw th bg => exact onEither_alters (rasterAnswer_alters aw ah tw th bg) e
  | outmode q mask mode => exact onEither_alters (outmodeAnswer_alters mask mode) e
  | silence q hold loss => exact onEither_alters (silenceAnswer_alters hold loss) e
  | winset q output raw => exact onAddressed_alters (winsetAnswer_alters output raw) e
  | windrop q output window => exact onAddressed_alters (windropAnswer_alters output window) e
  | winmove q output window target => exact onAddressed_alters (winmoveAnswer_alters output window target) e
  | winread q output window bank => exact onAddressed_alters (winreadAnswer_alters output window bank) e
  | discard q output => exact onAddressed_alters (discardAnswer_alters output) e
  | commit q mask => exact onEither_alters (commitAnswer_alters mask) e
  | presave q output preset => exact onAddressed_alters (presaveAnswer_alters output preset) e
  | take q output window kind value style duration =>
    exact onAddressed_alters (takeAnswer_alters output window kind value style duration) e
  | freezeNow q output window kind => exact onAddressed_alters (freezeNowAnswer_alters output window kind) e
  | freezeAt q output window tag => exact onAddressed_alters (freezeAtAnswer_alters output window tag) e
  | thaw q output window => exact onAddressed_alters (thawAnswer_alters output window) e
  | rotset q list count entries dwell style duration =>
    exact onEither_alters (rotsetAnswer_alters list count entries dwell style duration) e
  | cueset q entry raw => exact onEither_alters (cuesetAnswer_alters entry raw) e
  | cuedrop q entry => exact onEither_alters (cuedropAnswer_alters entry) e
  | genlock q source => exact onEither_alters (genlockAnswer_alters source) e
  | survey q frames => exact onAddressed_alters (surveyAnswer_alters frames) e
  | surveyread q source => exact onAddressed_alters (surveyreadAnswer_alters source) e
  | unknownRequest q code => exact onAddressed_alters (own := fun s => refuse s .unknown) (fun s => .refl _ s) e
  | frameOpen source tag width height cells tick => exact onForwarded_alters (takeOpen_alters source tag width height cells tick) e
  | pic source tag sequence line first count pixels =>
    exact onForwarded_alters (takePic_alters source tag sequence line first count pixels) e
  | frameClose source tag cells => exact onForwarded_alters (takeClose_alters source tag cells) e
  | timebase weekday hour minute second frame =>
    exact onForwarded_alters (takeTimebase_alters weekday hour minute second frame) e
  | enumCell next => exact onCell_alters (takeEnum_alters next) e
  | forwardCell kind => exact onForwarded_alters (fun s => .refl _ s) e
  | headerError => cases e; exact .ite (failedHeader_alters s) (noCell_alters s)
  | huntHeaderCheck header check => cases e; exact .ite (huntCheck_alters header check s) (.refl _ s)
  | syncReached => cases e; exact .ite (.after (send_alters _ _) (goodInHunt_alters s)) (.refl _ s)
  | linkHunt => cases e; exact .ite (failedHeader_alters s) (.refl _ s)
  | lossOfSignal => cases e; exact .ite (.refl _ s) (loseSignal_alters s)
  | signalReceived => cases e; exact .ite (.after (send_alters _ _) (enterHunt_alters s)) (.refl _ s)
  | breakStart => cases e; exact .ite (.refl _ s) (beginBreak_alters s)
  | breakEnd => cases e; exact .ite (endBreak_alters s) (.refl _ s)
  | chainBreak => cases e; exact chainBreakStep_alters s
  | powerOnFillEnd => cases e; exact .ite (frameStart_alters s) (.refl _ s)
  | outputFrameStart => cases e; exact .ite (frameStart_alters s) (.refl _ s)
  | picWrite => cases e; exact picWriteStep_alters s
  | completion => cases e; exact completionStep_alters s
  | listAdvance r => cases e; exact .ite (.after (mark_alters _ _) (advanceList_alters r s)) (.refl _ s)
  | transitionEnd o w => cases e; exact .ite (.after (mark_alters _ _) (setTransition_alters _ _ _ s)) (.refl _ s)
  | sourceStale i => cases e; exact silenceMove_alters i _ _ s
  | sourceLost i => cases e; exact silenceMove_alters i _ _ s
  | surveyDone => cases e; exact .ite (.still rfl) (.refl _ s)
  | genlockTrack => cases e; exact genlockMove_alters _ _ s
  | genlockLocked => cases e; exact genlockMove_alters _ _ s
  | genlockUnlocked => cases e; exact genlockMove_alters _ _ s
  | subscribe | release | restart | powerOn | outputFrameEnd => exact alters_all s t
  -- RECALL is left, whose name Mathlib has made a keyword.
  | _ => exact onRequest_alters (recallAnswer_alters _ _) (recallAll_alters _ _) e

end Sys2Proof.Proofs
end

section
/-! PROOFS. The raster, the frame and genlock stay legal (R45, R113, R114, R120, R123, R124, R125). -/

namespace Sys2Proof.Proofs

open Sys2Proof.Machine Sys2Proof.Claims Sys2Proof.Safety

variable {l : List Facet} {s t : State} {g : Rgu}

/-! ### The legality, cut in two: RGU with its reference, and the frame that runs with its fetches -/

/-- RGU's own values are legal, whatever frame runs (R113, R120, R123, R124). -/
structure RguLegal (g : Rgu) : Prop where
  raster : RasterLegal g.raster
  staged : ∀ r ∈ g.staged, RasterLegal r
  trim : -2200 ≤ g.trim ∧ g.trim ≤ 2200
  nextCorr : -2200 ≤ g.nextCorr ∧ g.nextCorr ≤ 2200
  free_iff : g.genlock = .free ↔ g.reference = none
  atRest : g.genlock = .free →
    g.trim = 0 ∧ g.nextCorr = 0 ∧ g.capture = none ∧ g.lastE = none ∧ g.goodCount = 0 ∧ g.badCount = 0
  good : g.goodCount ≤ 8
  bad : g.badCount ≤ 2

/-- RGU is legal and the store of its reference is LIVE (R125). -/
structure GenlockSound (s : State) : Prop where
  rgu : RguLegal s.rgu
  live : ∀ src ∈ s.rgu.reference, s.sourceLive src = true

/-- The frame that runs is within its bounds (R114, R123), and fetches wait for its present tick alone (R45). -/
structure FrameSound (s : State) : Prop where
  running : s.rgu.scan = .running →
    s.rgu.tick < s.rgu.length ∧ s.rgu.raster.nominal ≤ s.rgu.length + 4400 ∧ s.rgu.length ≤ s.rgu.raster.nominal + 4400
      ∧ 1024 + s.rgu.raster.activeHeight * s.rgu.raster.totalWidth ≤ s.rgu.length
  fill : s.rgu.scan = .fill → s.rgu.tick < s.rgu.length
  fetches : FetchesLegal s

/-- What O60 keeps. -/
abbrev TimingLegal (s : State) : Prop := RasterStateLegal s ∧ GenlockLegal s ∧ FetchesLegal s

theorem timingLegal_iff : TimingLegal s ↔ GenlockSound s ∧ FrameSound s := by
  constructor
  · rintro ⟨⟨hr, hst, ht, hn, hrun, hfill⟩, ⟨hfree, hrest, hlive, hgood, hbad⟩, hf⟩
    exact ⟨⟨⟨hr, hst, ht, hn, hfree, hrest, hgood, hbad⟩, hlive⟩, ⟨hrun, hfill, hf⟩⟩
  · rintro ⟨⟨⟨hr, hst, ht, hn, hfree, hrest, hgood, hbad⟩, hlive⟩, ⟨hrun, hfill, hf⟩⟩
    exact ⟨⟨hr, hst, ht, hn, hrun, hfill⟩, ⟨hfree, hrest, hlive, hgood, hbad⟩, hf⟩

/-! ### The store of a source -/

theorem storeOf_congr {src : Fin 16} (h : ∀ i, (t.store i).binding = some src ↔ (s.store i).binding = some src) :
    t.storeOf src = s.storeOf src := by simp only [State.storeOf, h]

theorem storeOf_binding {src : Fin 16} {i : Fin 8} (h : s.storeOf src = some i) : (s.store i).binding = some src := by
  simpa using List.find?_some h

theorem sourceLive_iff {src : Fin 16} :
    s.sourceLive src = true ↔ ∃ i, s.storeOf src = some i ∧ (s.store i).state = .live := by
  unfold State.sourceLive
  cases s.storeOf src <;> simp

/-- A source stays LIVE where bindings stay and its store does. -/
theorem sourceLive_keep {src : Fin 16} (h : s.sourceLive src = true)
    (hb : ∀ i, (t.store i).binding = some src ↔ (s.store i).binding = some src)
    (hl : ∀ i, (s.store i).binding = some src → (s.store i).state = .live → (t.store i).state = .live) :
    t.sourceLive src = true := by
  obtain ⟨i, hi, hlive⟩ := sourceLive_iff.1 h
  exact sourceLive_iff.2 ⟨i, (storeOf_congr hb).trans hi, hl i (storeOf_binding hi) hlive⟩

theorem Alters.sourceLive {src : Fin 16} (h : Alters l s t) (hb : Facet.bindings ∉ l) (hl : Facet.live ∉ l)
    (hs : s.sourceLive src = true) : t.sourceLive src = true :=
  sourceLive_keep hs (fun i => by rw [h .bindings hb i]) fun i _ => h .live hl i

/-! ### What keeps RGU and the reference -/

theorem Alters.genlockSound (h : Alters l s t) (hb : Facet.bindings ∉ l) (hl : Facet.live ∉ l) (hr : Facet.rgu ∉ l)
    (hs : GenlockSound s) : GenlockSound t := by
  have rgu : t.rgu = s.rgu := h .rgu hr
  exact ⟨rgu ▸ hs.rgu, fun src hsrc => h.sourceLive hb hl (hs.live src (rgu ▸ hsrc))⟩

/-- Only RGU has been written, with a legal value and no other reference. -/
theorem Alters.genlockSound_of_rgu (h : Alters [.rgu] s t) (hs : GenlockSound s) (hg : RguLegal t.rgu)
    (href : ∀ src ∈ t.rgu.reference, src ∈ s.rgu.reference) : GenlockSound t :=
  ⟨hg, fun src hsrc => h.sourceLive (by decide) (by decide) (hs.live src (href src hsrc))⟩

theorem setRgu_genlockSound (hs : GenlockSound s) (hg : RguLegal g) (href : ∀ src ∈ g.reference, src ∈ s.rgu.reference) :
    GenlockSound (s.setRgu g) := (setRgu_alters g s).genlockSound_of_rgu hs hg href

/-- The frame that runs, as RGU holds it. -/
def frameOf (g : Rgu) : Scan × Nat × Nat × Raster := (g.scan, g.tick, g.length, g.raster)

/-- The frame that runs is the same, and no fetch is raised. -/
structure FrameKept (s t : State) : Prop where
  frame : frameOf t.rgu = frameOf s.rgu
  scanout : Same .scanout s t

theorem fetches_keep (hs : FetchesLegal s) (hscan : t.rgu.scan = s.rgu.scan) (htick : t.rgu.tick = s.rgu.tick)
    (h : Same .scanout s t) : FetchesLegal t := by
  obtain ⟨hf, hv⟩ := h
  rw [FetchesLegal, hscan, htick]
  refine ⟨fun f hm => hs.1 f (hf f hm), fun o ho => ?_⟩
  rcases hv o ho with h | ⟨f, h⟩
  · exact hs.2 o h
  · exact (hs.1 f h).1

theorem FrameKept.frameSound (h : FrameKept s t) (hs : FrameSound s) : FrameSound t := by
  obtain ⟨hframe, hscanout⟩ := h
  simp only [frameOf, Prod.mk.injEq] at hframe
  obtain ⟨hscan, htick, hlen, hraster⟩ := hframe
  refine ⟨?_, ?_, fetches_keep hs.fetches hscan htick hscanout⟩
  · rw [hscan, htick, hlen, hraster]
    exact hs.running
  · rw [hscan, htick, hlen]
    exact hs.fill

theorem FrameKept.refl (s : State) : FrameKept s s := ⟨rfl, Same.refl .scanout s⟩

theorem FrameKept.trans {u : State} (h : FrameKept s t) (k : FrameKept t u) : FrameKept s u :=
  ⟨k.frame.trans h.frame, h.scanout.trans k.scanout⟩

theorem Alters.frameKept (h : Alters l s t) (hr : Facet.rgu ∉ l) (hf : Facet.scanout ∉ l) : FrameKept s t := by
  have rgu : t.rgu = s.rgu := h .rgu hr
  exact ⟨congrArg frameOf rgu, h .scanout hf⟩

/-- Nothing that the legality reads has been altered. -/
theorem Alters.timing (h : Alters l s t) (hb : Facet.bindings ∉ l) (hl : Facet.live ∉ l) (hr : Facet.rgu ∉ l)
    (hf : Facet.scanout ∉ l) (hs : TimingLegal s) : TimingLegal t := by
  obtain ⟨hg, hframe⟩ := timingLegal_iff.1 hs
  exact timingLegal_iff.2 ⟨h.genlockSound hb hl hr hg, (h.frameKept hr hf).frameSound hframe⟩

/-! ### Losing the reference -/

/-- RGU without a reference (R120, R125). -/
def freed (g : Rgu) : Rgu :=
  { g with genlock := .free, reference := none, trim := 0, nextCorr := 0, capture := none, lastE := none, goodCount := 0,
           badCount := 0 }

theorem freed_legal (h : RguLegal g) : RguLegal (freed g) where
  raster := h.raster
  staged := h.staged
  trim := by simp [freed]
  nextCorr := by simp [freed]
  free_iff := by simp [freed]
  atRest _ := by simp [freed]
  good := by simp [freed]
  bad := by simp [freed]

theorem referenceLoss_rgu (s : State) : (referenceLoss s).rgu = freed s.rgu := by simp [referenceLoss, freed]

/-- After the store of `src` has left LIVE, the reference, if there is one still, is another source. -/
theorem leaveLive_rgu (src : Fin 16) (h : RguLegal s.rgu) : RguLegal (leaveLive src s).rgu
    ∧ ∀ x ∈ (leaveLive src s).rgu.reference, x ∈ s.rgu.reference ∧ x ≠ src := by
  unfold leaveLive
  split
  · rw [referenceLoss_rgu]
    exact ⟨freed_legal h, fun x hx => by cases hx⟩
  · rename_i hkept
    refine ⟨h, fun x hx => ⟨hx, ?_⟩⟩
    rintro rfl
    refine hkept ⟨fun hfree => ?_, hx⟩
    rw [h.free_iff.1 hfree] at hx
    cases hx

theorem leaveLive_frameKept (src : Fin 16) (s : State) : FrameKept s (leaveLive src s) := by
  have scanout := leaveLive_alters src s .scanout (by decide)
  revert scanout
  unfold leaveLive
  split
  · exact fun h => ⟨by rw [referenceLoss_rgu]; rfl, h⟩
  · exact fun _ => .refl s

/-- A store is written, its binding as it was, and LIVE if it is the reference's: the reference's store is LIVE still. -/
theorem setStore_sourceLive {i : Fin 8} {x : Store} {src : Fin 16} (h : s.sourceLive src = true)
    (hb : x.binding = (s.store i).binding) (hx : (s.store i).binding = some src → (s.store i).state = .live → x.state = .live) :
    (s.setStore i x).sourceLive src = true := by
  refine sourceLive_keep h (fun j => ?_) fun j hj hlive => ?_
  · rw [State.setStore_store]
    split
    · subst_vars; rw [hb]
    · rfl
  · rw [State.setStore_store]
    split
    · subst_vars; exact hx hj hlive
    · exact hlive

/-- STM's count of one store (R66): when the store leaves LIVE, RGU loses it as a reference. -/
theorem countSilence_genlockSound (i : Fin 8) (hs : GenlockSound s) : GenlockSound (countSilence i s) := by
  simp only [countSilence]
  split
  · exact hs
  · rename_i src hsrc
    split
    · refine ⟨(leaveLive_rgu src (by simpa using hs.rgu)).1, fun x hx => ?_⟩
      obtain ⟨href, hne⟩ := (leaveLive_rgu src (by simpa using hs.rgu)).2 x hx
      refine (leaveLive_alters src _).sourceLive (by decide) (by decide) ?_
      refine (raiseIf_alters (l := []) _ _ _).sourceLive (by decide) (by decide) ?_
      refine (raiseIf_alters (l := []) _ _ _).sourceLive (by decide) (by decide) ?_
      refine setStore_sourceLive (hs.live x (by simpa using href)) rfl fun hx => ?_
      exact absurd (Option.some.inj (hx.symm.trans hsrc)) hne
    · rename_i hstays
      refine (raiseIf_alters (l := []) _ _ _).genlockSound (by decide) (by decide) (by decide) ?_
      refine (raiseIf_alters (l := []) _ _ _).genlockSound (by decide) (by decide) (by decide) ?_
      refine ⟨hs.rgu, fun x hx => setStore_sourceLive (hs.live x hx) rfl fun _ hlive => ?_⟩
      by_contra hgone
      exact hstays ⟨hlive, hgone⟩

theorem countSilence_frameKept (i : Fin 8) (s : State) : FrameKept s (countSilence i s) := by
  simp only [countSilence]
  split
  · exact .refl s
  · have counted : ∀ x b b', FrameKept s (((s.setStore i x).raiseIf b .sourceStale).raiseIf b' .sourceLost) := fun x b b' =>
      ⟨by simp, by simp [Same]; exact fun _ => .inl⟩
    split
    · exact (counted _ _ _).trans (leaveLive_frameKept _ _)
    · exact counted _ _ _

end Sys2Proof.Proofs
end

section
/-! PROOFS. Each command keeps the raster, the frame and genlock legal. -/

namespace Sys2Proof.Proofs

open Sys2Proof.Machine Sys2Proof.Claims Sys2Proof.Safety

variable {l : List Facet} {s t : State} {g : Rgu}

/-! ### RGU's requests -/

theorem readRaster_legal {aw ah tw th : Half} {bg : Word} {r : Raster} (h : readRaster aw ah tw th bg = some r) :
    RasterLegal r := by
  simp only [readRaster, Option.bind_eq_bind, Option.bind_eq_some_iff, Option.some.injEq, readRange_eq_some] at h
  obtain ⟨_, ⟨hx, rfl⟩, _, ⟨hy, rfl⟩, _, ⟨hv, rfl⟩, _, ⟨hu, rfl⟩, rfl⟩ := h
  simp only [RasterLegal]
  omega

theorem setRgu_frameKept (h : frameOf g = frameOf s.rgu) : FrameKept s (s.setRgu g) :=
  ⟨h, setRgu_alters g s .scanout (by decide)⟩

/-- RGU is written, the frame and the raster as they were. -/
theorem setRgu_timing (hs : TimingLegal s) (hg : RguLegal g) (href : ∀ src ∈ g.reference, s.sourceLive src = true)
    (hf : frameOf g = frameOf s.rgu) : TimingLegal (s.setRgu g) :=
  timingLegal_iff.2 ⟨⟨hg, fun src h => (setRgu_alters g s).sourceLive (by decide) (by decide) (href src h)⟩,
    (setRgu_frameKept hf).frameSound (timingLegal_iff.1 hs).2⟩

theorem raiseIf_timing (b : Bool) (c : Condition) (hs : TimingLegal s) : TimingLegal (s.raiseIf b c) :=
  (raiseIf_alters (l := []) b c s).timing (by decide) (by decide) (by decide) (by decide) hs

theorem rguLegal_of (hs : TimingLegal s) : RguLegal s.rgu := (timingLegal_iff.1 hs).1.rgu

theorem referenceLive_of (hs : TimingLegal s) : ∀ src ∈ s.rgu.reference, s.sourceLive src = true := (timingLegal_iff.1 hs).1.live

theorem rasterAnswer_timing (aw ah tw th : Half) (bg : Word) (hs : TimingLegal s) :
    TimingLegal (rasterAnswer aw ah tw th bg s).state := by
  unfold rasterAnswer
  split
  · exact hs
  · rename_i r hr
    have h := rguLegal_of hs
    refine setRgu_timing hs { h with staged := ?_ } (referenceLive_of hs) rfl
    rintro _ ⟨⟩
    exact readRaster_legal hr

theorem genlockNone_timing (hs : TimingLegal s) : TimingLegal (genlockNone s) :=
  raiseIf_timing _ _ (setRgu_timing (g := freed s.rgu) hs (freed_legal (rguLegal_of hs)) (fun _ h => by cases h) rfl)

theorem genlockTo_timing {src : Fin 16} (hs : TimingLegal s) (hlive : s.sourceLive src = true) : TimingLegal (genlockTo src s) := by
  have h := rguLegal_of hs
  refine raiseIf_timing _ _ (setRgu_timing hs ⟨h.raster, h.staged, h.trim, h.nextCorr, by simp, by simp, by simp, by simp⟩ ?_ rfl)
  rintro _ ⟨⟩
  exact hlive

theorem genlockAnswer_timing (source : Byte) (hs : TimingLegal s) : TimingLegal (genlockAnswer source s).state := by
  unfold genlockAnswer
  split
  · exact hs
  · exact genlockNone_timing hs
  · split
    · exact genlockTo_timing hs ‹_›
    · exact hs

/-! ### A binding that ends, and a store that is bound -/

/-- An arming on store `i` is forgotten, every other record kept (R97). -/
def forget (i : Fin 8) : FreezeRecord → FreezeRecord
  | .armed t j => if j = i then .none else .armed t j
  | other => other

/-- The state without store `i`'s queue entries and without the armings that name it (R51, R97). -/
def forgotten (i : Fin 8) (s : State) : State :=
  { flushQueue i s with freezes := gmap (fun _ _ => forget i) s.freezes }

theorem endBinding_bound {i : Fin 8} {src : Fin 16} (h : (s.store i).binding = some src) :
    endBinding i s = leaveLive src (forgotten i s) := by
  simp only [endBinding, h]
  rfl

theorem endBinding_unbound {i : Fin 8} (h : (s.store i).binding = none) : endBinding i s = s := by simp only [endBinding, h]

theorem endBinding_frameKept (i : Fin 8) (s : State) : FrameKept s (endBinding i s) := by
  cases h : (s.store i).binding with
  | none => rw [endBinding_unbound h]; exact .refl s
  | some src =>
    rw [endBinding_bound h]
    exact .trans (t := forgotten i s) ⟨rfl, Same.refl .scanout s⟩ (leaveLive_frameKept _ _)

/-- After the end of store `i`'s binding, the reference, if there is one still, is another source than that store's. -/
theorem endBinding_reference (i : Fin 8) (hs : GenlockSound s) : RguLegal (endBinding i s).rgu
    ∧ ∀ src ∈ (endBinding i s).rgu.reference, (endBinding i s).sourceLive src = true ∧ (s.store i).binding ≠ some src := by
  cases h : (s.store i).binding with
  | none =>
    rw [endBinding_unbound h]
    exact ⟨hs.rgu, fun src hsrc => ⟨hs.live src hsrc, by simp⟩⟩
  | some x =>
    rw [endBinding_bound h]
    have left := leaveLive_rgu (s := forgotten i s) x hs.rgu
    refine ⟨left.1, fun src hsrc => ?_⟩
    obtain ⟨href, hne⟩ := left.2 src hsrc
    exact ⟨(leaveLive_alters x (forgotten i s)).sourceLive (by decide) (by decide) (hs.live src href),
      fun h => hne (Option.some.inj h).symm⟩

theorem endBinding_binding (i j : Fin 8) (s : State) : ((endBinding i s).store j).binding = (s.store j).binding := by
  cases h : (s.store i).binding with
  | none => rw [endBinding_unbound h]
  | some src =>
    rw [endBinding_bound h]
    exact leaveLive_alters src (forgotten i s) .bindings (by decide) j

theorem setStore_frameKept (i : Fin 8) (x : Store) (s : State) : FrameKept s (s.setStore i x) :=
  ⟨rfl, Same.refl .scanout s⟩

/-- Store `i` is bound anew or released, to no other store's source. -/
theorem rebound_timing {i : Fin 8} {x : Store} (hs : TimingLegal s)
    (hx : ∀ src ∈ x.binding, ∀ j, j ≠ i → (s.store j).binding ≠ some src) : TimingLegal ((endBinding i s).setStore i x) := by
  obtain ⟨hg, hframe⟩ := timingLegal_iff.1 hs
  obtain ⟨hrgu, href⟩ := endBinding_reference i hg
  refine timingLegal_iff.2 ⟨⟨hrgu, fun src hsrc => ?_⟩,
    ((endBinding_frameKept i s).trans (setStore_frameKept i x _)).frameSound hframe⟩
  obtain ⟨hlive, hold⟩ := href src hsrc
  obtain ⟨j, hj, hjlive⟩ := sourceLive_iff.1 hlive
  have hji : j ≠ i := by
    rintro rfl
    exact hold ((endBinding_binding j j s).symm.trans (storeOf_binding hj))
  have hnew : x.binding ≠ some src := fun h =>
    hx src h j hji ((endBinding_binding i j s).symm.trans (storeOf_binding hj))
  refine sourceLive_keep hlive (fun k => ?_) fun k hk hklive => ?_
  · rw [State.setStore_store]
    split
    · subst_vars
      rw [endBinding_binding]
      simp [hold, hnew]
    · rfl
  · rw [State.setStore_store]
    split
    · subst_vars
      rw [endBinding_binding] at hk
      exact absurd hk hold
    · exact hklive

theorem subscribeAnswer_timing (store source : Byte) (hs : TimingLegal s) : TimingLegal (subscribeAnswer store source s).state := by
  unfold subscribeAnswer
  split
  · split
    · exact hs
    · rename_i i src _ _ hdup
      split
      · exact hs
      · refine rebound_timing hs ?_
        rintro _ ⟨⟩ j hj hbound
        exact hdup (by simpa using ⟨j, hj, hbound⟩)
  · exact hs

theorem releaseAnswer_timing (store : Byte) (hs : TimingLegal s) : TimingLegal (releaseAnswer store s).state := by
  unfold releaseAnswer
  split
  · exact hs
  · split
    · exact hs
    · split
      · exact hs
      · refine rebound_timing hs ?_
        rintro _ ⟨⟩

/-! ### A FRAME-OPEN, and the raster's tick -/

theorem capture_timing (src : Fin 16) (hs : TimingLegal s) : TimingLegal (capture src s) := by
  unfold capture
  split
  · rename_i hlocked
    have h := rguLegal_of hs
    exact setRgu_timing hs ⟨h.raster, h.staged, h.trim, h.nextCorr, h.free_iff, fun hfree => absurd hfree hlocked.1, h.good, h.bad⟩
      (referenceLive_of hs) rfl
  · exact hs

/-- Every fetch that CMP raises is raised at the tick it is for. -/
theorem raisedFetches_tick {f : Fetch} (h : f ∈ s.raisedFetches) : f.raised = s.rgu.tick := by
  obtain ⟨o, -, rfl⟩ := List.mem_map.1 h
  rfl

/-- The tick moves on within a frame that runs. -/
theorem moveTick_timing {n : Nat} (hs : TimingLegal s) (hrun : s.rgu.scan = .running) (hn : n < s.rgu.length) :
    TimingLegal (moveTick n s) := by
  obtain ⟨⟨hrgu, hlive⟩, hframe⟩ := timingLegal_iff.1 hs
  refine timingLegal_iff.2 ⟨⟨⟨hrgu.raster, hrgu.staged, hrgu.trim, hrgu.nextCorr, hrgu.free_iff, hrgu.atRest, hrgu.good, hrgu.bad⟩,
    hlive⟩, ⟨fun _ => ⟨hn, (hframe.running hrun).2⟩, fun _ => hn, fun f hf => ⟨hrun, raisedFetches_tick hf⟩, fun o ho => ?_⟩⟩
  simp at ho

theorem reachTick_timing (tick : Nat) (hs : TimingLegal s) : TimingLegal (reachTick tick s) := by
  unfold reachTick
  split
  · rename_i hmove
    exact moveTick_timing hs hmove.1 (by omega)
  · exact hs

theorem takeOpen_timing (source tag : Byte) (width height cells : Half) (tick : Nat) (hs : TimingLegal s) :
    TimingLegal (takeOpen source tag width height cells tick s) := by
  have reached := reachTick_timing tick hs
  unfold takeOpen
  simp only
  split
  · exact reached
  · refine (forStore_alters (l := []) (fun i s => storeOpen_alters i _ _ _ _ s) _).timing (by decide) (by decide) (by decide)
      (by decide) (capture_timing _ ?_)
    exact (surveyCell_alters (l := []) _ _ _).timing (by decide) (by decide) (by decide) (by decide) reached

/-- No frame runs, so no fetch waits. -/
theorem FrameSound.quiet (h : FrameSound s) (hs : s.rgu.scan ≠ .running) :
    (∀ f, f ∉ s.fmc.fetches) ∧ ∀ o, (tget s.samples o).isSome ≠ true :=
  ⟨fun f hf => hs (h.fetches.1 f hf).1, fun o ho => hs (h.fetches.2 o ho)⟩

theorem idleTick_timing (hs : TimingLegal s) : TimingLegal (idleTick s) := by
  unfold idleTick
  split
  · rename_i hrun
    split
    · exact moveTick_timing hs hrun ‹_›
    · exact hs
  · rename_i hfill
    obtain ⟨⟨hrgu, hlive⟩, hframe⟩ := timingLegal_iff.1 hs
    have hlt := hframe.fill hfill
    have quiet := hframe.quiet (by simp [hfill])
    refine timingLegal_iff.2 ⟨⟨⟨hrgu.raster, hrgu.staged, hrgu.trim, hrgu.nextCorr, hrgu.free_iff, hrgu.atRest, hrgu.good,
      hrgu.bad⟩, hlive⟩, ⟨fun hrun => ?_, fun _ => Nat.mod_lt _ (by omega), fun f hf => absurd hf (quiet.1 f),
      fun o ho => absurd ho (quiet.2 o)⟩⟩
    exact absurd (hrun.symm.trans hfill) (by decide)
  · exact hs

/-! ### RGU at an output frame end -/

theorem clampTo_bounds (n : Nat) (v : Int) : -(n : Int) ≤ clampTo n v ∧ clampTo n v ≤ n := by
  unfold clampTo
  omega

theorem corrected_bounds (x : GenlockState) (e : Int) {trim : Int} (h : -2200 ≤ trim ∧ trim ≤ 2200) :
    (-2200 ≤ (corrected x e trim).1 ∧ (corrected x e trim).1 ≤ 2200)
      ∧ (-2200 ≤ (corrected x e trim).2 ∧ (corrected x e trim).2 ≤ 2200) := by
  have wide := clampTo_bounds 2200
  have narrow := clampTo_bounds 220
  cases x
  · simp [corrected]
  · exact ⟨wide _, h⟩
  · exact ⟨⟨by have := narrow (e.tdiv 32); simp [corrected, Config.narrowClamp]; omega,
      by have := narrow (e.tdiv 32); simp [corrected, Config.narrowClamp]; omega⟩, wide _⟩
  · exact ⟨⟨by have := narrow (e.tdiv 32); simp [corrected, Config.narrowClamp]; omega,
      by have := narrow (e.tdiv 32); simp [corrected, Config.narrowClamp]; omega⟩, wide _⟩

/-- The counts stay in range, and only FREE is FREE after them (R124). -/
theorem counted_bounds {x : GenlockState} {good bad : Nat} (e : Int) (hx : x ≠ .free) (hgood : good ≤ 8) (hbad : bad ≤ 2) :
    (counted x good bad e).1 ≠ .free ∧ (counted x good bad e).2.1 ≤ 8 ∧ (counted x good bad e).2.2 ≤ 2 := by
  cases x with
  | free => exact absurd rfl hx
  | acquire => unfold counted; split_ifs <;> simp <;> omega
  | track => unfold counted; split_ifs <;> simp <;> omega
  | locked => unfold counted; split_ifs <;> simp <;> omega

theorem genlockWork_rgu (h : RguLegal s.rgu) : RguLegal (genlockWork s).rgu ∧ (genlockWork s).rgu.reference = s.rgu.reference := by
  unfold genlockWork
  simp only
  split
  · rename_i hfree
    have rest := h.atRest hfree
    exact ⟨⟨h.raster, h.staged, by simp, by simp, h.free_iff, fun _ => by simp [rest], h.good, h.bad⟩, rfl⟩
  · rename_i hx
    exact ⟨⟨h.raster, h.staged, h.trim, by simp, h.free_iff, fun hfree => absurd hfree (by simpa using hx), by simp, by simp⟩, rfl⟩
  · rename_i e _ hx
    have bounds := corrected_bounds s.rgu.genlock e h.trim
    have counts := counted_bounds (x := s.rgu.genlock) e hx h.good h.bad
    rw [State.raiseIf_rgu]
    refine ⟨⟨h.raster, h.staged, bounds.2, bounds.1, ?_, fun hfree => absurd hfree counts.1, counts.2.1, counts.2.2⟩, rfl⟩
    have bound : s.rgu.reference ≠ none := fun hn => hx (h.free_iff.2 hn)
    simp [counts.1, bound]

theorem genlockWork_genlockSound (hs : GenlockSound s) : GenlockSound (genlockWork s) :=
  (genlockWork_alters s).genlockSound_of_rgu hs (genlockWork_rgu hs.rgu).1 fun _ h => (genlockWork_rgu hs.rgu).2 ▸ h

theorem genlockWork_frameKept (s : State) : FrameKept s (genlockWork s) := by
  unfold genlockWork
  simp only
  split
  · exact setRgu_frameKept rfl
  · exact setRgu_frameKept rfl
  · refine .trans ?_ ((raiseIf_alters (l := []) _ _ _).frameKept (by decide) (by decide))
    exact setRgu_frameKept rfl

theorem applyRaster_genlockSound (hs : GenlockSound s) : GenlockSound (applyRaster s) := by
  have h := hs.rgu
  unfold applyRaster
  split
  · exact hs
  · rename_i r hr
    split
    · exact setRgu_genlockSound hs ⟨h.staged r hr, by simp, h.trim, h.nextCorr, h.free_iff, h.atRest, h.good, h.bad⟩ fun _ => id
    · rename_i hlocked
      refine (raiseIf_alters (l := []) _ _ _).genlockSound (by decide) (by decide) (by decide) (setRgu_genlockSound hs
        ⟨h.staged r hr, by simp, by simp, by simp, ?_, by simp, by simp, by simp⟩ fun _ => id)
      have bound : s.rgu.reference ≠ none := fun hn => hlocked (h.free_iff.2 hn)
      simp [bound]

theorem countPart_genlockSound (hs : GenlockSound s) : GenlockSound (countPart s) :=
  setRgu_genlockSound hs ⟨hs.rgu.raster, hs.rgu.staged, hs.rgu.trim, hs.rgu.nextCorr, hs.rgu.free_iff, hs.rgu.atRest, hs.rgu.good,
    hs.rgu.bad⟩ fun _ => id

theorem framePart_genlockSound (x : FrameEndPart) (hs : GenlockSound s) : GenlockSound (framePart x s) := by
  cases x with
  | silence =>
    refine foldl_keeps (fun s i h => ?_) _ hs
    split
    · exact h
    · exact countSilence_genlockSound i h
  | count => exact countPart_genlockSound hs
  | raster =>
    simp only [framePart, rasterPart]
    split
    · exact hs
    · exact applyRaster_genlockSound hs
  | genlock =>
    simp only [framePart, genlockPart]
    split
    · exact hs
    · exact genlockWork_genlockSound hs
  | selection | swap | transitions | lists | freezes | survey =>
    exact (framePart_alters _ s).genlockSound (by decide) (by decide) (by decide) hs

/-- Between frames no fetch waits, and no frame is bounded. -/
theorem closeFrame_timing (hs : GenlockSound s) : TimingLegal (closeFrame s) := by
  have h := hs.rgu
  refine timingLegal_iff.2 ⟨(closeFrame_alters s).genlockSound_of_rgu hs
    ⟨h.raster, h.staged, h.trim, h.nextCorr, h.free_iff, h.atRest, h.good, h.bad⟩ fun _ => id, ?_⟩
  refine ⟨by simp [closeFrame], by simp [closeFrame], by simp [closeFrame, Fmc.reset], fun o ho => ?_⟩
  simp [closeFrame] at ho

theorem frameEnd_timing (order : List FrameEndPart) (hs : TimingLegal s) : TimingLegal (frameEnd order s) :=
  closeFrame_timing (foldl_keeps (fun _ x h => framePart_genlockSound x h) _ (timingLegal_iff.1 hs).1)

/-! ### The output frame start and the resets -/

/-- c and L of a frame that begins, in a legal raster (R114, R123). -/
theorem fixFrame_bounds (h : RguLegal g) : (fixFrame g).raster.nominal ≤ (fixFrame g).length + 4400
    ∧ (fixFrame g).length ≤ (fixFrame g).raster.nominal + 4400
    ∧ 1024 + (fixFrame g).raster.activeHeight * (fixFrame g).raster.totalWidth ≤ (fixFrame g).length := by
  obtain ⟨haw, haw', hah, hah', htw, htw', hth, hth'⟩ := h.raster
  have trim := h.trim
  have corr := h.nextCorr
  have blank : 4 * 656 ≤ g.raster.blanking := Nat.mul_le_mul (by omega) (by omega)
  have nominal : g.raster.nominal = g.raster.blanking + g.raster.activeHeight * g.raster.totalWidth := by
    rw [Raster.nominal, Raster.blanking, ← Nat.add_mul, Nat.mul_comm]
    congr 1
    omega
  simp only [fixFrame, flooredCorr, Config.blankingFloor]
  omega

theorem frameStart_timing (hs : TimingLegal s) (hscan : s.rgu.scan ≠ .running) : TimingLegal (frameStart s) := by
  obtain ⟨hg, hframe⟩ := timingLegal_iff.1 hs
  obtain ⟨nofetch, nosample⟩ := hframe.quiet hscan
  have h := hg.rgu
  have bounds := fixFrame_bounds h
  refine timingLegal_iff.2 ⟨(frameStart_alters s).genlockSound_of_rgu hg
    ⟨h.raster, h.staged, h.trim, h.nextCorr, h.free_iff, h.atRest, h.good, h.bad⟩ fun _ => id, ?_⟩
  have positive : 0 < (fixFrame s.rgu).length := by omega
  exact ⟨fun _ => ⟨positive, bounds⟩, fun _ => positive, fun f hf => absurd hf (nofetch f), fun o ho => absurd ho (nosample o)⟩

theorem reset_timing : TimingLegal State.reset := ⟨reset_raster, reset_genlock, reset_fetches⟩

theorem restarted_timing (hs : TimingLegal s) : TimingLegal (restarted s) := by
  have hreset := (timingLegal_iff.1 reset_timing).1.rgu
  have hframe := (timingLegal_iff.1 hs).2
  refine timingLegal_iff.2 ⟨⟨⟨hreset.raster, hreset.staged, hreset.trim, hreset.nextCorr, hreset.free_iff, hreset.atRest,
    hreset.good, hreset.bad⟩, fun _ h => by cases h⟩, ⟨fun h => ?_, fun h => ?_, fun _ hf => (by cases hf), fun o ho => ?_⟩⟩
  · simp only [restarted, restartRgu] at h
    split at h
    · cases h
    · contradiction
  · simp only [restarted, restartRgu] at h ⊢
    split at h
    · cases h
    · exact hframe.fill h
  · simp [restarted, State.reset] at ho

/-! ### Every command -/

theorem silenceMove_timing (i : Fin 8) (before : List SourceState) (after : SourceState) (hs : TimingLegal s) :
    TimingLegal (silenceMove i before after s) := by
  obtain ⟨hg, hframe⟩ := timingLegal_iff.1 hs
  unfold silenceMove
  split
  · exact (mark_alters (l := []) _ _).timing (by decide) (by decide) (by decide) (by decide)
      (timingLegal_iff.2 ⟨countSilence_genlockSound i hg, (countSilence_frameKept i s).frameSound hframe⟩)
  · exact hs

theorem genlockMove_timing (x x' : GenlockState) (hs : TimingLegal s) : TimingLegal (genlockMove x x' s) := by
  obtain ⟨hg, hframe⟩ := timingLegal_iff.1 hs
  unfold genlockMove
  split
  · exact (mark_alters (l := []) _ _).timing (by decide) (by decide) (by decide) (by decide)
      (timingLegal_iff.2 ⟨genlockWork_genlockSound hg, (genlockWork_frameKept s).frameSound hframe⟩)
  · exact hs

/-- A property that reads only facets, and that `act` keeps, holds after a cell. -/
theorem onCell_holds {P : State → Prop} {act : State → State} (hP : ∀ s t, Alters [] s t → P s → P t) (ha : ∀ s, P s → P (act s))
    (e : onCell act s = .next t) (hs : P s) : P t := by
  cases e
  split
  · exact ha _ (hP _ _ (goodCell_alters s) hs)
  · exact hP _ _ (noCell_alters s) hs

theorem onRequest_holds {P : State → Prop} {q : ReqHead} {code : Byte} {own : State → Answer} {all : State → State}
    (hP : ∀ s t, Alters [] s t → P s → P t) (ho : ∀ s, P s → P (own s).state) (ha : ∀ s, P s → P (all s))
    (e : onRequest q code own all s = .next t) (hs : P s) : P t := by
  refine onCell_holds hP (fun s h => ?_) e hs
  split
  · exact hP _ _ (send_alters _ _) (ha s h)
  · split
    · exact hP _ _ (send_alters _ _) (ho s h)
    · exact hP _ _ (send_alters _ _) h

theorem still_timing (s t : State) (h : Alters [] s t) (hs : TimingLegal s) : TimingLegal t :=
  h.timing (by decide) (by decide) (by decide) (by decide) hs

theorem onAddressed_timing {q : ReqHead} {code : Byte} {own : State → Answer} (ho : ∀ s, TimingLegal s → TimingLegal (own s).state)
    (e : onAddressed q code own s = .next t) (hs : TimingLegal s) : TimingLegal t :=
  onRequest_holds still_timing ho (fun _ h => h) e hs

theorem onEither_timing {q : ReqHead} {code : Byte} {own : State → Answer} (ho : ∀ s, TimingLegal s → TimingLegal (own s).state)
    (e : onEither q code own s = .next t) (hs : TimingLegal s) : TimingLegal t := onRequest_holds still_timing ho ho e hs

/-- Every command keeps the raster, the frame and genlock legal. -/
theorem exec_timing {c : Instr} (e : exec c s = .next t) (hs : TimingLegal s) : TimingLegal t := by
  cases c with
  | raster => exact onEither_timing (fun _ h => rasterAnswer_timing _ _ _ _ _ h) e hs
  | genlock => exact onEither_timing (fun _ h => genlockAnswer_timing _ h) e hs
  | subscribe => exact onAddressed_timing (fun _ h => subscribeAnswer_timing _ _ h) e hs
  | release => exact onAddressed_timing (fun _ h => releaseAnswer_timing _ h) e hs
  | restart => exact onEither_timing (fun _ h => restarted_timing h) e hs
  | frameOpen =>
    exact onCell_holds still_timing (fun _ h => still_timing _ _ (send_alters _ _) (takeOpen_timing _ _ _ _ _ _ h)) e hs
  | powerOn => cases e; exact reset_timing
  | powerOnFillEnd =>
    cases e
    split
    · exact frameStart_timing hs (by simp [*])
    · exact hs
  | outputFrameEnd order =>
    cases e
    split
    · exact frameEnd_timing order hs
    · exact hs
  | outputFrameStart =>
    cases e
    split
    · exact frameStart_timing hs (by simp [*])
    · exact hs
  | sourceStale i => cases e; exact silenceMove_timing i _ _ hs
  | sourceLost i => cases e; exact silenceMove_timing i _ _ hs
  | genlockTrack => cases e; exact genlockMove_timing _ _ hs
  | genlockLocked => cases e; exact genlockMove_timing _ _ hs
  | genlockUnlocked => cases e; exact genlockMove_timing _ _ hs
  -- No other command alters what the legality reads.
  | _ =>
    exact (exec_alters e).timing (of_decide_eq_true rfl) (of_decide_eq_true rfl) (of_decide_eq_true rfl) (of_decide_eq_true rfl) hs

/-- Settles O60: each command keeps RGU's legality and the frame's, and so does a tick. -/
theorem stepsKeepRasterAndGenlock : Obligations.StepsKeepRasterAndGenlock := by
  rintro s t ⟨-, hs⟩ e
  unfold step at e
  split at e
  · cases e
    exact idleTick_timing hs
  · exact exec_timing (s := { s with pending := _ }) e hs

end Sys2Proof.Proofs
end

section
/-! PROOFS. Transitions, freezes and pins: what each update of a window keeps legal (R64, R73, R84, R88, R95). -/

namespace Sys2Proof.Proofs

open Sys2Proof.Machine Sys2Proof.Claims Sys2Proof.Safety

variable {l : List Facet} {s t : State} {o : Fin 4} {w : Fin 8}

/-! ### The legality, window by window -/

/-- A transition record fits a window that holds content `c` (R73). -/
def TransitionFits (c : Option Content) (x : TransitionRecord) : Prop :=
  ∀ t ∈ runningOf x, 1 ≤ t.duration ∧ t.duration ≤ 255 ∧ t.position < t.duration ∧ c = some (Transition.owner t)

/-- A freeze record fits a window that holds content `c` (R88, R95). -/
def FreezeFits (s : State) (c : Option Content) (f : FreezeRecord) : Prop :=
  ∀ i ∈ storeNamed f, (s.store i).binding.isSome = true ∧ c = (s.store i).binding.map Content.source

/-- `TransitionsLegal` and `FreezesLegal`, part by part. -/
structure WindowsLegal (s : State) : Prop where
  transitions : ∀ o w, TransitionFits (activeContent s o w) (s.transition o w)
  freezes : ∀ o w, FreezeFits s (activeContent s o w) (s.freeze o w)
  frozenIdle : ∀ o w, (s.freeze o w).isFrozen = true → s.transition o w = .idle
  pins : ∀ i k, ((s.store i).slot k).pins = frozenOn s i k
  complete : ∀ i k, 0 < ((s.store i).slot k).pins → ((s.store i).slot k).number?.isSome = true
  onePinned : ∀ i j k, 0 < ((s.store i).slot j).pins → 0 < ((s.store i).slot k).pins → j = k

theorem windowsLegal_iff : WindowsLegal s ↔ TransitionsLegal s ∧ FreezesLegal s :=
  ⟨fun ⟨h1, h2, h3, h4, h5, h6⟩ => ⟨h1, h2, h3, h4, h5, h6⟩, fun ⟨h1, h2, h3, h4, h5, h6⟩ => ⟨h1, h2, h3, h4, h5, h6⟩⟩

theorem transitionFits_idle (c : Option Content) : TransitionFits c .idle := fun _ h => by cases h

theorem freezeFits_none (s : State) (c : Option Content) : FreezeFits s c .none := fun _ h => by cases h

theorem FreezeFits.congr {c : Option Content} {f : FreezeRecord} (h : FreezeFits s c f)
    (hb : ∀ i, (t.store i).binding = (s.store i).binding) : FreezeFits t c f := fun i hi => by rw [hb i]; exact h i hi

theorem activeContent_congr (h : (t.output o).active = (s.output o).active) : activeContent t o w = activeContent s o w := by
  simp only [activeContent, State.activeWindow, h]

/-! ### How many windows are frozen on a slot -/

theorem allWindows_nodup : allWindows.Nodup := by decide

theorem mem_allWindows (ow : Fin 4 × Fin 8) : ow ∈ allWindows := by
  simp [allWindows]

theorem frozenOn_eq_countP (s : State) (i : Fin 8) (k : Fin 3) :
    frozenOn s i k = allWindows.countP fun ow => restsOn i k (s.freeze ow.1 ow.2) := List.countP_eq_length_filter.symm

theorem frozenOn_congr {i : Fin 8} {k : Fin 3} (h : ∀ o w, restsOn i k (t.freeze o w) = restsOn i k (s.freeze o w)) :
    frozenOn t i k = frozenOn s i k := by simp only [frozenOn, h]

/-- Two predicates that differ at one place of a list alone count alike but there. -/
theorem countP_differ {α : Type} [DecidableEq α] {xs : List α} (hn : xs.Nodup) {a : α} (ha : a ∈ xs) {p q : α → Bool}
    (h : ∀ b, b ≠ a → p b = q b) : xs.countP p + (q a).toNat = xs.countP q + (p a).toNat := by
  have rest : (xs.erase a).countP p = (xs.erase a).countP q :=
    List.countP_congr fun b hb => by rw [h b (hn.mem_erase_iff.1 hb).1]
  rw [(List.perm_cons_erase ha).countP_eq p, (List.perm_cons_erase ha).countP_eq q, List.countP_cons, List.countP_cons, rest]
  cases p a <;> cases q a <;> simp

/-- Where one window's freeze record is another, the counts follow it. -/
theorem frozenOn_refrozen {x : FreezeRecord} (h : ∀ o' w', t.freeze o' w' = if o = o' ∧ w = w' then x else s.freeze o' w')
    (i : Fin 8) (k : Fin 3) :
    frozenOn t i k + (restsOn i k (s.freeze o w)).toNat = frozenOn s i k + (restsOn i k x).toNat := by
  have same : ∀ ow : Fin 4 × Fin 8, ow ≠ (o, w) → restsOn i k (t.freeze ow.1 ow.2) = restsOn i k (s.freeze ow.1 ow.2) := by
    rintro ⟨o', w'⟩ hne
    rw [h, if_neg]
    rintro ⟨rfl, rfl⟩
    exact hne rfl
  have counts := countP_differ allWindows_nodup (mem_allWindows (o, w)) same
  rw [← frozenOn_eq_countP, ← frozenOn_eq_countP] at counts
  simpa [h] using counts

theorem restsOn_of_not_frozen {f : FreezeRecord} (h : f.isFrozen = false) (i : Fin 8) (k : Fin 3) : restsOn i k f = false := by
  cases f with
  | frozen => cases h
  | _ => rfl

/-- A slot without pins has no window frozen on it. -/
theorem WindowsLegal.not_restsOn (h : WindowsLegal s) {i : Fin 8} {k : Fin 3} (hk : ((s.store i).slot k).pins = 0) (o : Fin 4)
    (w : Fin 8) : restsOn i k (s.freeze o w) = false := by
  rw [h.pins, frozenOn_eq_countP, List.countP_eq_zero] at hk
  simpa using hk (o, w) (mem_allWindows _)

/-! ### Updates -/

theorem Alters.windows (h : Alters l s t) (ha : Facet.active ∉ l) (ht : Facet.transitions ∉ l) (hf : Facet.freezes ∉ l)
    (hb : Facet.bindings ∉ l) (hp : Facet.pins ∉ l) (hs : WindowsLegal s) : WindowsLegal t := by
  have content : ∀ o w, activeContent t o w = activeContent s o w := fun o w => activeContent_congr (h .active ha o)
  have transition : ∀ o w, t.transition o w = s.transition o w := fun o w => by
    rw [State.transition, h .transitions ht, State.transition]
  have freeze : ∀ o w, t.freeze o w = s.freeze o w := fun o w => by rw [State.freeze, h .freezes hf, State.freeze]
  have pins := h .pins hp
  refine ⟨fun o w => ?_, fun o w => ?_, fun o w => ?_, fun i k => ?_, fun i k hpos => ?_, fun i j k hj hk => ?_⟩
  · rw [content, transition]; exact hs.transitions o w
  · rw [content, freeze]; exact (hs.freezes o w).congr (h .bindings hb)
  · rw [freeze, transition]; exact hs.frozenIdle o w
  · rw [(pins i k).1, hs.pins]; exact (frozenOn_congr fun o w => by rw [freeze]).symm
  · rw [(pins i k).1] at hpos; exact (pins i k).2 hpos (hs.complete i k hpos)
  · rw [(pins i j).1] at hj; rw [(pins i k).1] at hk; exact hs.onePinned i j k hj hk

/-- A transition record is written that fits its window. -/
theorem setTransition_windows {x : TransitionRecord} (hs : WindowsLegal s) (hx : TransitionFits (activeContent s o w) x)
    (hf : (s.freeze o w).isFrozen = true → x = .idle) : WindowsLegal (s.setTransition o w x) := by
  refine ⟨fun o' w' => ?_, hs.freezes, fun o' w' hfrozen => ?_, hs.pins, hs.complete, hs.onePinned⟩
  · rw [State.setTransition_transition]
    split
    · rename_i h; obtain ⟨rfl, rfl⟩ := h; exact hx
    · exact hs.transitions o' w'
  · rw [State.setTransition_transition]
    split
    · rename_i h; obtain ⟨rfl, rfl⟩ := h; exact hf hfrozen
    · exact hs.frozenIdle o' w' hfrozen

theorem setTransition_idle_windows (o : Fin 4) (w : Fin 8) (hs : WindowsLegal s) : WindowsLegal (s.setTransition o w .idle) :=
  setTransition_windows hs (transitionFits_idle _) fun _ => rfl

/-- An output is written; the records of its windows fit what its active bank holds. -/
theorem setOutput_windows {x : Output} (hs : WindowsLegal s)
    (hx : ∀ w, TransitionFits ((findWindow x.active w).map WindowRecord.content) (s.transition o w)
      ∧ FreezeFits s ((findWindow x.active w).map WindowRecord.content) (s.freeze o w)) : WindowsLegal (s.setOutput o x) := by
  have content : ∀ o' w, activeContent (s.setOutput o x) o' w
      = if o = o' then (findWindow x.active w).map WindowRecord.content else activeContent s o' w := fun o' w => by
    simp only [activeContent, State.activeWindow, State.setOutput_output]
    split <;> rfl
  refine ⟨fun o' w => ?_, fun o' w => ?_, hs.frozenIdle, hs.pins, hs.complete, hs.onePinned⟩
  · rw [content]
    split
    · subst_vars; exact (hx w).1
    · exact hs.transitions o' w
  · rw [content]
    split
    · subst_vars; exact (hx w).2
    · exact hs.freezes o' w

/-- One window's freeze record is written, and the pins of the slots follow it. -/
theorem refrozen_windows {x : FreezeRecord} (hs : WindowsLegal s)
    (hfreeze : ∀ o' w', t.freeze o' w' = if o = o' ∧ w = w' then x else s.freeze o' w')
    (hactive : ∀ o', (t.output o').active = (s.output o').active) (hbinding : ∀ i, (t.store i).binding = (s.store i).binding)
    (htransition : t.transitions = s.transitions)
    (hpins : ∀ i k, ((t.store i).slot k).pins + (restsOn i k (s.freeze o w)).toNat
      = ((s.store i).slot k).pins + (restsOn i k x).toNat)
    (hnumber : ∀ i k, ((t.store i).slot k).number? = ((s.store i).slot k).number?)
    (hidle : x.isFrozen = true → s.transition o w = .idle) (hfits : FreezeFits s (activeContent s o w) x)
    (hslot : ∀ i k, restsOn i k x = true → ((s.store i).slot k).number?.isSome = true
      ∧ ∀ j, 0 < ((s.store i).slot j).pins → j = k) : WindowsLegal t := by
  have content : ∀ o w, activeContent t o w = activeContent s o w := fun o w => activeContent_congr (hactive o)
  have transition : ∀ o w, t.transition o w = s.transition o w := fun o w => by rw [State.transition, htransition, State.transition]
  have pinned : ∀ i k, 0 < ((t.store i).slot k).pins → 0 < ((s.store i).slot k).pins ∨ restsOn i k x = true := fun i k hpos => by
    have := hpins i k
    cases hr : restsOn i k x
    · simp only [hr, Bool.toNat_false] at this; exact .inl (by omega)
    · exact .inr rfl
  refine ⟨fun o' w' => ?_, fun o' w' => ?_, fun o' w' hfrozen => ?_, fun i k => ?_, fun i k hpos => ?_, fun i j k hj hk => ?_⟩
  · rw [content, transition]; exact hs.transitions o' w'
  · rw [content, hfreeze]
    split
    · rename_i h; obtain ⟨rfl, rfl⟩ := h; exact hfits.congr hbinding
    · exact (hs.freezes o' w').congr hbinding
  · rw [transition]
    rw [hfreeze] at hfrozen
    split at hfrozen
    · rename_i h; obtain ⟨rfl, rfl⟩ := h; exact hidle hfrozen
    · exact hs.frozenIdle o' w' hfrozen
  · have counts := frozenOn_refrozen hfreeze i k
    have := hpins i k
    have := hs.pins i k
    omega
  · rw [hnumber]
    rcases pinned i k hpos with h | h
    · exact hs.complete i k h
    · exact (hslot i k h).1
  · rcases pinned i j hj with h | h <;> rcases pinned i k hk with h' | h'
    · exact hs.onePinned i j k h h'
    · exact (hslot i k h').2 j h
    · exact ((hslot i j h).2 k h').symm
    · cases x with
      | frozen a b shared =>
        simp only [restsOn, decide_eq_true_eq] at h h'
        exact h.2.symm.trans h'.2
      | _ => cases h

/-- A freeze record that is not FROZEN takes the place of one that is not. -/
theorem setFreeze_windows {x : FreezeRecord} (hs : WindowsLegal s) (hold : (s.freeze o w).isFrozen = false)
    (hnew : x.isFrozen = false) (hfits : FreezeFits s (activeContent s o w) x) : WindowsLegal (s.setFreeze o w x) :=
  refrozen_windows (o := o) (w := w) (x := x) hs (s.setFreeze_freeze o w x) (fun _ => rfl) (fun _ => rfl) rfl
    (fun i k => by rw [restsOn_of_not_frozen hold, restsOn_of_not_frozen hnew]; rfl) (fun _ _ => rfl)
    (fun h => by rw [hnew] at h; cases h) hfits fun i k h => by rw [restsOn_of_not_frozen hnew] at h; cases h

theorem pinSlot_slot (i : Fin 8) (k : Fin 3) (s : State) (i' : Fin 8) (k' : Fin 3) :
    ((pinSlot i k s).store i').slot k' =
      { (s.store i').slot k' with pins := ((s.store i').slot k').pins + (decide (i = i' ∧ k = k')).toNat } := by
  simp only [pinSlot, State.setStore_store]
  by_cases hi : i = i' <;> by_cases hk : k = k' <;> simp [hi, hk]

theorem unpinSlot_slot (i : Fin 8) (k : Fin 3) (s : State) (i' : Fin 8) (k' : Fin 3) :
    ((unpinSlot i k s).store i').slot k' =
      { (s.store i').slot k' with pins := ((s.store i').slot k').pins - (decide (i = i' ∧ k = k')).toNat } := by
  simp only [unpinSlot, State.setStore_store]
  by_cases hi : i = i' <;> by_cases hk : k = k' <;> simp [hi, hk]

/-- A freeze is taken on a slot that is COMPLETE and, if another slot of its store could be pinned, none (R64, R90, R92). -/
theorem takeFreeze_windows {i : Fin 8} {k : Fin 3} {shared : Bool} (hs : WindowsLegal s) (hold : (s.freeze o w).isFrozen = false)
    (hfits : FreezeFits s (activeContent s o w) (.frozen i k shared)) (hc : ((s.store i).slot k).number?.isSome = true)
    (hone : ∀ j, 0 < ((s.store i).slot j).pins → j = k) : WindowsLegal (takeFreeze o w i k shared s) := by
  have idle := setTransition_idle_windows o w hs
  have swap : takeFreeze o w i k shared s = (pinSlot i k (s.setTransition o w .idle)).setFreeze o w (.frozen i k shared) := rfl
  rw [swap]
  refine refrozen_windows (o := o) (w := w) idle (fun o' w' => State.setFreeze_freeze _ o w _ o' w') (fun _ => rfl)
    (pinSlot_alters i k _ .bindings (by decide)) rfl (fun i' k' => ?_) (fun i' k' => ?_) (fun _ => by simp) hfits fun i' k' h => ?_
  · rw [State.setFreeze_store, pinSlot_slot, State.setTransition_freeze, restsOn_of_not_frozen hold]
    rfl
  · rw [State.setFreeze_store, pinSlot_slot]
    rfl
  · simp only [restsOn, decide_eq_true_eq] at h
    obtain ⟨rfl, rfl⟩ := h
    exact ⟨hc, hone⟩

/-- A freeze is released, its slot unpinned (R94, R95). -/
theorem releaseFreeze_windows (o : Fin 4) (w : Fin 8) (hs : WindowsLegal s) : WindowsLegal (releaseFreeze o w s) := by
  unfold releaseFreeze
  split
  · rename_i i k shared hf
    have rests : ∀ i' k', restsOn i' k' (s.freeze o w) = decide (i = i' ∧ k = k') := fun i' k' => by rw [hf, restsOn]
    refine refrozen_windows (o := o) (w := w) hs (fun o' w' => State.setFreeze_freeze _ o w _ o' w') (fun _ => rfl)
      (unpinSlot_alters i k _ .bindings (by decide)) rfl (fun i' k' => ?_) (fun i' k' => ?_) (fun h => by cases h)
      (freezeFits_none _ _) fun _ _ h => by cases h
    · have counted : (restsOn i' k' (s.freeze o w)).toNat ≤ ((s.store i').slot k').pins := by
        cases hp : restsOn i' k' (s.freeze o w)
        · exact Nat.zero_le _
        · by_contra hzero
          have := hs.not_restsOn (i := i') (k := k') (by simpa using hzero) o w
          rw [hp] at this
          cases this
      rw [State.setFreeze_store, unpinSlot_slot]
      rw [rests] at counted ⊢
      simp only [restsOn, Bool.toNat_false]
      omega
    · rw [State.setFreeze_store, unpinSlot_slot]
      rfl
  · rename_i hf
    exact setFreeze_windows hs (by rw [hf]; rfl) rfl (freezeFits_none _ _)
  · exact hs

end Sys2Proof.Proofs
end

section
/-! PROOFS. The bank swap, the lists and the armed freezes of an output frame end keep transitions and freezes legal (R14, R81, R92, R95,
R106 to R109). -/

namespace Sys2Proof.Proofs

open Sys2Proof.Machine Sys2Proof.Claims Sys2Proof.Safety

variable {l : List Facet} {s t : State} {o : Fin 4} {w : Fin 8}

theorem still_windows (s t : State) (h : Alters [] s t) (hs : WindowsLegal s) : WindowsLegal t :=
  h.windows (by decide) (by decide) (by decide) (by decide) (by decide) hs

/-! ### The bank swap -/

theorem releaseFreeze_transition (o : Fin 4) (w : Fin 8) (s : State) (o' : Fin 4) (w' : Fin 8) :
    (releaseFreeze o w s).transition o' w' = s.transition o' w' := by
  unfold releaseFreeze
  split <;> rfl

theorem releaseFreeze_freeze (o : Fin 4) (w : Fin 8) (s : State) (o' : Fin 4) (w' : Fin 8) :
    (releaseFreeze o w s).freeze o' w' = if o = o' ∧ w = w' then .none else s.freeze o' w' := by
  unfold releaseFreeze
  split
  · rw [State.setFreeze_freeze]; rfl
  · rw [State.setFreeze_freeze]
  · rename_i h
    split
    · rename_i hw; obtain ⟨rfl, rfl⟩ := hw; exact h
    · rfl

/-- FZU keeps a record that names no store, or one whose source the new record shows; it releases every other (R95). -/
theorem swapFreeze_eq (new : Option WindowRecord) (o : Fin 4) (w : Fin 8) (s : State) :
    swapFreeze new o w s = if ∀ i ∈ storeNamed (s.freeze o w), freezeKept s new i = true then s else releaseFreeze o w s := by
  unfold swapFreeze
  cases h : s.freeze o w with
  | none => simp [storeNamed]
  | armed => simp [storeNamed]
  | frozen => simp [storeNamed]

/-- What a freeze record that FZU keeps names is the store of the source that the new record shows. -/
theorem freezeKept_content {new : Option WindowRecord} {i : Fin 8} (h : freezeKept s new i = true) :
    (s.store i).binding.isSome = true ∧ new.map WindowRecord.content = (s.store i).binding.map Content.source := by
  unfold freezeKept State.frozenSource at h
  split at h
  · rename_i r src hsrc
    simp [hsrc, of_decide_eq_true h]
  · cases h

/-- A transition that TXU keeps at a bank swap is the new record's (R81). -/
theorem swapTransition_fits {c : Option Content} {x : TransitionRecord} (new : Option WindowRecord) (h : TransitionFits c x) :
    TransitionFits (new.map WindowRecord.content) (swapTransition new x) ∧ TransitionFits c (swapTransition new x)
      ∧ (x = .idle → swapTransition new x = .idle) := by
  unfold swapTransition
  cases x with
  | idle => exact ⟨transitionFits_idle _, transitionFits_idle _, fun _ => rfl⟩
  | running t =>
    have kept : ∀ r : WindowRecord, r.content = Transition.owner t →
        TransitionFits (some r.content) (.running t) := by
      rintro r hr _ ⟨⟩
      obtain ⟨h1, h2, h3, -⟩ := h t rfl
      exact ⟨h1, h2, h3, congrArg some hr⟩
    simp only
    split
    · rename_i r ho
      split
      · exact ⟨kept r (by simpa [Transition.owner, ho]), h, id⟩
      · exact ⟨transitionFits_idle _, transitionFits_idle _, fun _ => rfl⟩
    · rename_i r l ho
      split
      · exact ⟨kept r (by simpa [Transition.owner, ho]), h, id⟩
      · exact ⟨transitionFits_idle _, transitionFits_idle _, fun _ => rfl⟩
    · exact ⟨transitionFits_idle _, transitionFits_idle _, fun _ => rfl⟩

/-- The records of window `w` fit what its output's pending bank holds. -/
def FitsPending (o : Fin 4) (w : Fin 8) (s : State) : Prop :=
  TransitionFits (pendingContent s o w) (s.transition o w) ∧ FreezeFits s (pendingContent s o w) (s.freeze o w)

/-- Records that fit the pending bank still do where the bank and the bindings stay, and each record stays or is cleared. -/
theorem FitsPending.keep (h : FitsPending o w s) (hp : (t.output o).pending = (s.output o).pending)
    (hb : ∀ i, (t.store i).binding = (s.store i).binding) (ht : t.transition o w = s.transition o w ∨ t.transition o w = .idle)
    (hf : t.freeze o w = s.freeze o w ∨ t.freeze o w = .none) : FitsPending o w t := by
  rw [FitsPending, pendingContent, hp]
  constructor
  · rcases ht with e | e <;> rw [e]
    exacts [h.1, transitionFits_idle _]
  · rcases hf with e | e <;> rw [e]
    exacts [h.2.congr hb, freezeFits_none _ _]

theorem swapFreeze_freeze (new : Option WindowRecord) (o : Fin 4) (w : Fin 8) (s : State) (o' : Fin 4) (w' : Fin 8) :
    (swapFreeze new o w s).freeze o' w' = s.freeze o' w' ∨ (swapFreeze new o w s).freeze o' w' = .none := by
  rw [swapFreeze_eq]
  split
  · exact .inl rfl
  · rw [releaseFreeze_freeze]
    split
    · exact .inr rfl
    · exact .inl rfl

theorem swapFreeze_transition (new : Option WindowRecord) (o : Fin 4) (w : Fin 8) (s : State) (o' : Fin 4) (w' : Fin 8) :
    (swapFreeze new o w s).transition o' w' = s.transition o' w' := by
  rw [swapFreeze_eq]
  split
  · rfl
  · exact releaseFreeze_transition o w s o' w'

theorem swapFreeze_windows (new : Option WindowRecord) (o : Fin 4) (w : Fin 8) (hs : WindowsLegal s) :
    WindowsLegal (swapFreeze new o w s)
      ∧ FreezeFits (swapFreeze new o w s) (new.map WindowRecord.content) ((swapFreeze new o w s).freeze o w) := by
  rw [swapFreeze_eq]
  split
  · rename_i kept
    exact ⟨hs, fun i hi => freezeKept_content (kept i hi)⟩
  · refine ⟨releaseFreeze_windows o w hs, ?_⟩
    rw [releaseFreeze_freeze, if_pos ⟨rfl, rfl⟩]
    exact freezeFits_none _ _

theorem swapWindow_outputs (o : Fin 4) (s : State) (w : Fin 8) : (swapWindow o s w).outputs = s.outputs :=
  (swapWindow_touches o s w).outputs (by decide) (by decide) (by decide)

theorem swapWindow_output (o : Fin 4) (s : State) (w : Fin 8) (o' : Fin 4) : (swapWindow o s w).output o' = s.output o' := by
  rw [State.output, swapWindow_outputs, State.output]

/-- TXU's and FZU's decisions on a window keep the legality, make its records fit the pending bank, and those of the other windows that fit
still do. -/
theorem swapWindow_windows (o : Fin 4) (w : Fin 8) (hs : WindowsLegal s) : WindowsLegal (swapWindow o s w)
    ∧ FitsPending o w (swapWindow o s w) ∧ ∀ w', FitsPending o w' s → FitsPending o w' (swapWindow o s w) := by
  have output := swapWindow_output o s w o
  have binding := swapWindow_alters o s w .bindings (by decide)
  generalize hnew : findWindow (s.output o).pending w = new
  generalize ht : (s.setFormer o w (some (activeContent s o w))).setTransition o w (swapTransition new (s.transition o w)) = t
  have swapped : swapWindow o s w = swapFreeze new o w t := by rw [← ht, ← hnew]; rfl
  rw [swapped] at output binding ⊢
  obtain ⟨hfits, hactive, hidle⟩ := swapTransition_fits new (hs.transitions o w)
  have legal : WindowsLegal t := ht ▸ setTransition_windows (still_windows _ _ (setFormer_alters o w _ s) hs) hactive
    fun hf => hidle (hs.frozenIdle o w hf)
  obtain ⟨swapLegal, swapFits⟩ := swapFreeze_windows new o w legal
  have transition : ∀ w', (swapFreeze new o w t).transition o w'
      = if w = w' then swapTransition new (s.transition o w) else s.transition o w' := fun w' => by
    rw [swapFreeze_transition, ← ht, State.setTransition_transition]
    simp
  have fits : FitsPending o w (swapFreeze new o w t) := by
    rw [FitsPending, pendingContent, output, hnew, transition, if_pos rfl]
    exact ⟨hfits, swapFits⟩
  refine ⟨swapLegal, fits, fun w' hw' => ?_⟩
  by_cases h : w = w'
  · subst h; exact fits
  · refine hw'.keep (by rw [output]) binding (.inl (by rw [transition, if_neg h])) ?_
    have freeze : t.freeze o w' = s.freeze o w' := by rw [← ht]; rfl
    rw [← freeze]
    exact swapFreeze_freeze new o w t o w'

/-- After TXU's and FZU's decisions on windows `ws`, their records fit the pending bank. -/
theorem swapWindows_windows (ws : List (Fin 8)) (hs : WindowsLegal s) : WindowsLegal (ws.foldl (swapWindow o) s)
    ∧ ∀ w, w ∈ ws ∨ FitsPending o w s → FitsPending o w (ws.foldl (swapWindow o) s) := by
  induction ws generalizing s with
  | nil => exact ⟨hs, fun w hw => hw.resolve_left (by simp)⟩
  | cons x ws ih =>
    obtain ⟨legal, fits, keeps⟩ := swapWindow_windows o x hs
    obtain ⟨legal', fits'⟩ := ih legal
    refine ⟨legal', fun w hw => fits' w ?_⟩
    rcases hw with hw | hw
    · rcases List.mem_cons.1 hw with rfl | hw
      · exact .inr fits
      · exact .inl hw
    · exact .inr (keeps w hw)

theorem swapOutput_windows (o : Fin 4) (hs : WindowsLegal s) : WindowsLegal (swapOutput o s) := by
  unfold swapOutput
  split
  · obtain ⟨legal, fits⟩ := swapWindows_windows (o := o) (List.finRange 8) hs
    have every := fun w => fits w (.inl (List.mem_finRange w))
    simp only
    generalize (List.finRange 8).foldl (swapWindow o) s = t at legal every
    exact setOutput_windows legal every
  · exact hs

/-! ### Transitions -/

theorem advanceRecord_fits {c : Option Content} {x : TransitionRecord} (h : TransitionFits c x) :
    TransitionFits c (advanceRecord x) := by
  cases x with
  | idle => exact transitionFits_idle _
  | running t =>
    obtain ⟨h1, h2, h3, h4⟩ := h t rfl
    simp only [advanceRecord]
    split
    · exact transitionFits_idle _
    · rintro _ ⟨⟩
      exact ⟨h1, h2, by simp only; omega, h4⟩

theorem transitionPart_transition (s : State) (o : Fin 4) (w : Fin 8) : (transitionPart s).transition o w
    = if s.marked (.transition o w) then s.transition o w else advanceRecord (s.transition o w) := by
  simp [transitionPart, State.transition]

theorem transitionPart_windows (hs : WindowsLegal s) : WindowsLegal (transitionPart s) := by
  refine ⟨fun o w => ?_, hs.freezes, fun o w hf => ?_, hs.pins, hs.complete, hs.onePinned⟩
  · rw [transitionPart_transition]
    split
    · exact hs.transitions o w
    · exact advanceRecord_fits (hs.transitions o w)
  · rw [transitionPart_transition, hs.frozenIdle o w hf]
    split <;> rfl

/-! ### Rotation lists -/

theorem takenDuration_bounds (style : Style) {d : Nat} (h : d ≤ 255) : 1 ≤ takenDuration style d ∧ takenDuration style d ≤ 255 := by
  cases style <;> simp only [takenDuration] <;> omega

/-- A start leaves a record that fits a window whose content asks for it (R76, R79). -/
theorem startRecord_fits {a b : Shown} (style : Style) {d : Nat} {origin : Origin} {c : Option Content} (hd : 1 ≤ d ∧ d ≤ 255)
    (hc : c = some (Transition.owner ⟨a, b, style, d, 0, origin⟩)) : TransitionFits c (startRecord a b style d origin) := by
  unfold startRecord
  split
  · exact transitionFits_idle _
  · rintro _ ⟨⟩
    exact ⟨hd.1, hd.2, hd.1, hc⟩

/-- A window bound to a list is not FROZEN (R95). -/
theorem WindowsLegal.bound_not_frozen {r : Fin 4} (hs : WindowsLegal s) (h : activeContent s o w = some (.list r)) :
    (s.freeze o w).isFrozen = false := by
  have fits := hs.freezes o w
  rw [h] at fits
  cases hf : s.freeze o w with
  | frozen i k shared =>
    obtain ⟨-, hc⟩ := fits i (by rw [hf]; rfl)
    cases hb : (s.store i).binding <;> simp [hb] at hc
  | _ => rfl

theorem askStart_windows {r : Fin 4} (b : Shown) (style : Style) {d : Nat} {ow : Fin 4 × Fin 8} (hd : d ≤ 255)
    (hs : WindowsLegal s) (hc : activeContent s ow.1 ow.2 = some (.list r)) : WindowsLegal (askStart r b style d s ow) := by
  unfold askStart
  split
  · exact hs
  · split
    · exact hs
    · have started : ∀ a, WindowsLegal (s.setTransition ow.1 ow.2 (startRecord a b style (takenDuration style d) (.list r))) :=
        fun a => setTransition_windows hs (startRecord_fits style (takenDuration_bounds style hd) hc)
          fun hf => by rw [hs.bound_not_frozen hc] at hf; cases hf
      simp only
      split
      · exact started _
      · exact still_windows _ _ (mark_alters _ _) (started _)

theorem mem_boundWindows {r : Fin 4} {ow : Fin 4 × Fin 8} :
    ow ∈ boundWindows s r ↔ activeContent s ow.1 ow.2 = some (.list r) := by
  obtain ⟨o, w⟩ := ow
  simp [boundWindows, activeContent]

/-- A property that each step of a fold keeps, at the places of its list, holds at its end. -/
theorem foldl_keeps_mem {α : Type} {P : State → Prop} {f : State → α → State} {xs : List α}
    (h : ∀ s, ∀ x ∈ xs, P s → P (f s x)) (hs : P s) : P (xs.foldl f s) := by
  induction xs generalizing s with
  | nil => exact hs
  | cons x xs ih => exact ih (fun s y hy => h s y (List.mem_cons_of_mem x hy)) (h s x List.mem_cons_self hs)

theorem askStarts_windows {r : Fin 4} (b : Shown) (style : Style) {d : Nat} (hd : d ≤ 255) (hs : WindowsLegal s) :
    WindowsLegal (askStarts r b style d s) := by
  have kept : WindowsLegal (askStarts r b style d s) ∧ ∀ o, ((askStarts r b style d s).output o).active = (s.output o).active := by
    refine foldl_keeps_mem (P := fun t => WindowsLegal t ∧ ∀ o, (t.output o).active = (s.output o).active) ?_ ⟨hs, fun _ => rfl⟩
    rintro t ow how ⟨legal, active⟩
    have bound : activeContent t ow.1 ow.2 = some (.list r) :=
      (activeContent_congr (active ow.1)).trans (mem_boundWindows.1 how)
    exact ⟨askStart_windows b style hd legal bound,
      fun o => (askStart_alters r b style d t ow .active (by decide) o).trans (active o)⟩
  exact kept.1

theorem setList_windows (r : Fin 4) (x : RotationList) (hs : WindowsLegal s) : WindowsLegal (s.setList r x) :=
  still_windows _ _ (setList_alters r x s) hs

theorem advanceList_windows (r : Fin 4) (hd : (s.list r).duration ≤ 255) (hs : WindowsLegal s) : WindowsLegal (advanceList r s) := by
  simp only [advanceList]
  split
  · exact setList_windows _ _ hs
  · exact setList_windows _ _ (askStarts_windows _ _ hd hs)

theorem listFrameEnd_windows (r : Fin 4) (hl : ListsLegal s) (hs : WindowsLegal s) : WindowsLegal (listFrameEnd r s) := by
  obtain ⟨-, -, -, hd, -⟩ := hl r
  simp only [listFrameEnd]
  split
  · unfold applyStaged
    split
    · exact setList_windows _ _ hs
    · exact setList_windows _ _ (askStarts_windows _ _ (by decide) hs)
  · split
    · exact hs
    · split
      · exact advanceList_windows r hd hs
      · exact setList_windows _ _ hs

theorem listPart_windows (hl : ListsLegal s) (hs : WindowsLegal s) : WindowsLegal (listPart s) := by
  have kept : ListsLegal (listPart s) ∧ WindowsLegal (listPart s) := by
    refine foldl_keeps (P := fun t => ListsLegal t ∧ WindowsLegal t) (fun t r h => ?_) _ ⟨hl, hs⟩
    split
    · exact h
    · exact ⟨listFrameEnd_rotation r h.1, listFrameEnd_windows r h.1 h.2⟩
  exact kept.2

/-! ### Pins -/

theorem pinnedSlot_none {st : Store} : st.pinnedSlot = none ↔ ∀ k, (st.slot k).pins = 0 := by
  simp [Store.pinnedSlot, List.find?_eq_none]

theorem pinnedSlot_some {st : Store} {k : Fin 3} (h : st.pinnedSlot = some k) : 0 < (st.slot k).pins := by
  simpa using List.find?_some h

theorem selectedSlot_some {st : Store} {k : Fin 3} (h : st.selectedSlot = some k) : (st.slot k).selected = true :=
  List.find?_some (p := fun k => (st.slot k).selected) h

/-- The slot that a pin request names is COMPLETE, and no other slot of its store is pinned (R64). -/
theorem pinAnswer_slot {i : Fin 8} {k : Fin 3} (hs : WindowsLegal s)
    (hsel : ∀ k, ((s.store i).slot k).selected = true → ((s.store i).slot k).number?.isSome = true)
    (h : (s.store i).pinAnswer = .made k ∨ (s.store i).pinAnswer = .joined k) :
    ((s.store i).slot k).number?.isSome = true ∧ ∀ j, 0 < ((s.store i).slot j).pins → j = k := by
  unfold Store.pinAnswer at h
  cases hp : (s.store i).pinnedSlot with
  | some k' =>
    simp only [hp, reduceCtorEq, false_or, PinAnswer.joined.injEq] at h
    subst h
    exact ⟨hs.complete i k' (pinnedSlot_some hp), fun j hj => hs.onePinned i j k' hj (pinnedSlot_some hp)⟩
  | none =>
    have unpinned := pinnedSlot_none.1 hp
    simp only [hp] at h
    split at h
    · rename_i k' hk'
      simp only [PinAnswer.made.injEq, reduceCtorEq, or_false] at h
      subst h
      exact ⟨hsel k' (selectedSlot_some hk'), fun j hj => absurd (unpinned j) (by omega)⟩
    · simp at h

/-- A freeze is taken on the slot that a pin request names. -/
theorem pinAnswer_windows {i : Fin 8} {k : Fin 3} (shared : Bool) (hs : WindowsLegal s)
    (hsel : ∀ k, ((s.store i).slot k).selected = true → ((s.store i).slot k).number?.isSome = true)
    (h : (s.store i).pinAnswer = .made k ∨ (s.store i).pinAnswer = .joined k) (hold : (s.freeze o w).isFrozen = false)
    (hb : (s.store i).binding.isSome = true) (hc : activeContent s o w = (s.store i).binding.map Content.source) :
    WindowsLegal (takeFreeze o w i k shared s) := by
  obtain ⟨complete, one⟩ := pinAnswer_slot hs hsel h
  refine takeFreeze_windows hs hold ?_ complete one
  rintro _ ⟨⟩
  exact ⟨hb, hc⟩

/-! ### Armed freezes -/

/-- The newest slot of a store is COMPLETE (R53). -/
theorem newest_complete {st : Store} {k : Fin 3} (h : st.newest = some k) : (st.slot k).number?.isSome = true := by
  have := List.find?_some h
  split at this
  · cases this
  · rename_i n hn
    simp [hn]

/-- The slots that STM selects are COMPLETE (R62). -/
theorem selectStore_selected {i : Fin 8} (hb : (s.store i).binding.isSome = true) {k : Fin 3}
    (h : (((selectStore i s).store i).slot k).selected = true) : (((selectStore i s).store i).slot k).number?.isSome = true := by
  rw [selectStore, if_pos hb, State.setStore_store, if_pos rfl, select_slot] at h ⊢
  exact newest_complete (of_decide_eq_true h)

theorem selectStore_windows (i : Fin 8) (hs : WindowsLegal s) : WindowsLegal (selectStore i s) :=
  still_windows _ _ (selectStore_alters i s) hs

theorem selectStore_freeze (i : Fin 8) (s : State) (o : Fin 4) (w : Fin 8) : (selectStore i s).freeze o w = s.freeze o w := by
  unfold selectStore
  split <;> rfl

theorem takeArmed_windows (o : Fin 4) (w : Fin 8) (hs : WindowsLegal s) : WindowsLegal (takeArmed o w s) := by
  unfold takeArmed
  split
  · rename_i tag i hf
    have legal := selectStore_windows i hs
    have bound := (hs.freezes o w i (by rw [hf]; rfl)).1
    have armed : (selectStore i s).freeze o w = .armed tag i := (selectStore_freeze i s o w).trans hf
    obtain ⟨bound', shows⟩ := legal.freezes o w i (by rw [armed]; rfl)
    have taken : ∀ j shared, (((selectStore i s).store i).pinAnswer = .made j ∨ ((selectStore i s).store i).pinAnswer = .joined j) →
        WindowsLegal (takeFreeze o w i j shared (selectStore i s)) := fun j shared h =>
      pinAnswer_windows shared legal (fun k hk => selectStore_selected bound hk) h (by rw [armed]; rfl) bound' shows
    simp only
    split
    · exact legal
    · split
      · split
        · exact taken _ _ (.inl ‹_›)
        · exact taken _ _ (.inr ‹_›)
        · exact legal
      · exact legal
  · exact hs

/-! ### The output frame end -/

theorem freezePart_windows (hs : WindowsLegal s) : WindowsLegal (freezePart s) := by
  rw [freezePart]
  generalize allWindows = windows
  exact foldl_keeps (P := WindowsLegal) (fun _ ow h => takeArmed_windows ow.1 ow.2 h) windows hs

theorem framePart_windows (x : FrameEndPart) (hl : ListsLegal s) (hs : WindowsLegal s) : WindowsLegal (framePart x s) := by
  cases x with
  | swap => exact foldl_keeps (fun _ o h => swapOutput_windows o h) _ hs
  | transitions => exact transitionPart_windows hs
  | lists => exact listPart_windows hl hs
  | freezes => exact freezePart_windows hs
  | silence | selection | survey | count | raster | genlock =>
    exact (framePart_alters _ s).windows (by decide) (by decide) (by decide) (by decide) (by decide) hs

theorem frameEnd_windows (order : List FrameEndPart) (hl : ListsLegal s) (hs : WindowsLegal s) : WindowsLegal (frameEnd order s) := by
  have parts : ListsLegal (afterParts order s) ∧ WindowsLegal (afterParts order s) :=
    foldl_keeps (P := fun t => ListsLegal t ∧ WindowsLegal t)
      (fun _ x h => ⟨framePart_rotation x h.1, framePart_windows x h.1 h.2⟩) _ ⟨hl, hs⟩
  exact (closeFrame_alters _).windows (by decide) (by decide) (by decide) (by decide) (by decide) parts.2

end Sys2Proof.Proofs
end

section
/-! PROOFS. Each command keeps transitions, freezes and pins legal. -/

namespace Sys2Proof.Proofs

open Sys2Proof.Machine Sys2Proof.Claims Sys2Proof.Safety

variable {l : List Facet} {s t : State} {o : Fin 4} {w : Fin 8}

/-! ### TAKE -/

/-- A content write changes the content of its window alone (R21). -/
theorem findWindow_writeContent (x : List WindowRecord) (w : Fin 8) (c : Content) (w' : Fin 8) :
    (findWindow (writeContent x w c) w').map WindowRecord.content
      = if w = w' then (findWindow x w').map fun _ => c else (findWindow x w').map WindowRecord.content := by
  have number : ∀ r : WindowRecord, (if r.number = w then { r with content := c } else r).number = r.number := fun r => by
    split <;> rfl
  have found : findWindow (writeContent x w c) w'
      = (findWindow x w').map fun r => if r.number = w then { r with content := c } else r := by
    simp only [findWindow, writeContent, List.find?_map, Function.comp_def, number]
  rw [found, Option.map_map]
  cases hf : findWindow x w' with
  | none => simp
  | some r =>
    have hn := (findWindow_some hf).2
    by_cases h : w = w'
    · simp [hn, h]
    · have : r.number ≠ w := fun e => h (e.symm.trans hn)
      simp [h, this]

theorem content_inj {a b : Shown} (h : a.content = b.content) : a = b := by
  cases a <;> cases b <;> simp_all [Shown.content]

/-- A window that holds a source displays it, whether or not a transition to it runs (R73, R74). -/
theorem displayed_source {r : WindowRecord} {src : Fin 16} (hs : WindowsLegal s) (hr : s.activeWindow o w = some r)
    (hc : r.content = .source src) : displayed s o w r = .source src := by
  have fits := hs.transitions o w
  unfold displayed
  cases ht : s.transition o w with
  | idle => simp only [idleContent, hc]
  | running t =>
    obtain ⟨-, -, -, owner⟩ := fits t (by rw [ht]; rfl)
    simp only [activeContent, hr, Option.map_some, hc, Option.some.injEq] at owner
    unfold Transition.owner at owner
    split at owner
    · exact content_inj owner.symm
    · cases owner

theorem setTransition_setTransition (x y : TransitionRecord) (s : State) :
    (s.setTransition o w x).setTransition o w y = s.setTransition o w y := by
  unfold State.setTransition
  congr 1
  refine grid_ext fun i j => ?_
  simp only [gget_gset]
  split <;> rfl

/-- Forgetting an arming does not read the layout, nor the content write the freezes. -/
theorem rearm_contentWrite (a b : Shown) (c : Content) (s : State) :
    rearm o w a b (contentWrite o w c s) = contentWrite o w c (rearm o w a b s) := by
  rw [rearm_eq, rearm_eq]
  rfl

/-- What FZU makes of a TAKE on an armed window (R96). -/
theorem rearm_windows (a b : Shown) (hs : WindowsLegal s) (hf : (s.freeze o w).isFrozen = false) :
    WindowsLegal (rearm o w a b s) := by
  unfold rearm
  split
  · split
    · exact hs
    · exact setFreeze_windows hs hf rfl (freezeFits_none _ _)
  · exact hs

/-- An arming that a TAKE keeps names the store of the source that the window then shows (R95, R96). -/
theorem rearm_fits {r : WindowRecord} {b : Shown} (hs : WindowsLegal s) (hr : s.activeWindow o w = some r)
    (hf : (s.freeze o w).isFrozen = false) :
    FreezeFits s (some b.content) ((rearm o w (displayed s o w r) b s).freeze o w) := by
  have fits := hs.freezes o w
  unfold rearm
  cases h : s.freeze o w with
  | none => simp only [h]; exact freezeFits_none _ _
  | frozen => rw [h] at hf; cases hf
  | armed tag i =>
    obtain ⟨hbound, hshows⟩ := fits i (by rw [h]; rfl)
    obtain ⟨src, hsrc⟩ := Option.isSome_iff_exists.1 hbound
    simp only [activeContent, hr, Option.map_some, hsrc, Option.some.injEq] at hshows
    simp only
    split
    · rename_i hkept
      have source : b = .source src := by
        rcases hkept with hd | hsame
        · rw [← hd, displayed_source hs hr hshows]
        · simpa [State.frozenSource, hsrc] using hsame.symm
      rw [h]
      rintro _ ⟨⟩
      exact ⟨hbound, by rw [hsrc, source]; rfl⟩
    · rw [State.setFreeze_freeze, if_pos ⟨rfl, rfl⟩]
      exact freezeFits_none _ _

theorem contentWrite_content (o : Fin 4) (w : Fin 8) (c : Content) {r : WindowRecord} (hr : s.activeWindow o w = some r) :
    activeContent (contentWrite o w c s) o w = some c := by
  have hr' : findWindow (s.output o).active w = some r := hr
  simp only [activeContent, State.activeWindow, contentWrite, State.setOutput_output, if_true]
  rw [findWindow_writeContent, if_pos rfl, hr']
  rfl

/-- A TAKE that passes its checks: the transition that runs ends, the arming is kept or forgotten, the content is written, and the
transition that starts is the new content's (R77, R79, R96). -/
theorem carryTake_windows {r : WindowRecord} (b : Shown) (style : Style) {d : Nat} (hd : d ≤ 255) (hs : WindowsLegal s)
    (hr : s.activeWindow o w = some r) (hf : (s.freeze o w).isFrozen = false) :
    WindowsLegal (carryTake o w r b style d s).state := by
  generalize ha : displayed s o w r = a
  have order : (carryTake o w r b style d s).state
      = (contentWrite o w b.content ((rearm o w a b s).setTransition o w .idle)).setTransition o w
          (startRecord a b style (takenDuration style d) .take) := by
    simp only [carryTake, ha, rearm_contentWrite]
    exact (setTransition_setTransition .idle _ _).symm
  have active : (rearm o w a b s).activeWindow o w = some r := by
    rw [State.activeWindow, State.output, (rearm_touches o w a b s).outputs (by decide) (by decide) (by decide)]
    exact hr
  have binding := rearm_alters o w a b s .bindings (by decide)
  have rearmed := setTransition_idle_windows o w (rearm_windows a b hs hf)
  have kept := rearm_fits (b := b) hs hr hf
  rw [ha] at kept
  have output : ((rearm o w a b s).setTransition o w .idle).output o = (rearm o w a b s).output o := rfl
  rw [order]
  generalize hu : (rearm o w a b s).setTransition o w .idle = u at *
  have freezeSame : u.freeze = (rearm o w a b s).freeze := by rw [← hu]; rfl
  have bindingSame : ∀ i, (u.store i).binding = (s.store i).binding := fun i => by rw [← hu]; exact binding i
  have activeSame : u.activeWindow o w = some r := by rw [← hu]; exact active
  have idle : u.transition o w = .idle := by rw [← hu]; simp
  have written : WindowsLegal (contentWrite o w b.content u) := by
    refine setOutput_windows rearmed fun w' => ?_
    simp only [findWindow_writeContent]
    by_cases h : w = w'
    · subst h
      have found : findWindow (u.output o).active w = some r := activeSame
      rw [if_pos rfl, found, idle, freezeSame]
      exact ⟨transitionFits_idle _, kept.congr bindingSame⟩
    · rw [if_neg h]
      exact ⟨rearmed.transitions o w', rearmed.freezes o w'⟩
  refine setTransition_windows written (startRecord_fits style (takenDuration_bounds style hd)
    (contentWrite_content o w b.content activeSame)) fun hfrozen => ?_
  have notFrozen : (u.freeze o w).isFrozen = false := by
    rw [freezeSame]
    unfold rearm
    split
    · split
      · exact hf
      · simp [FreezeRecord.isFrozen]
    · exact hf
  exact absurd (notFrozen.symm.trans hfrozen) (by decide)

theorem takeAnswer_windows (output window kind : Byte) (value : Word) (style duration : Byte) (hs : WindowsLegal s) :
    WindowsLegal (takeAnswer output window kind value style duration s).state := by
  unfold takeAnswer
  split
  · split
    · exact hs
    · rename_i hr
      split
      · exact hs
      · rename_i hf
        exact carryTake_windows _ _ (Nat.le_of_lt_succ duration.isLt) hs hr (by simpa using hf)
  · exact hs

/-! ### FREEZE and THAW -/

/-- A FREEZE acts on a window that is not FROZEN and shows the source of the store it acts on (R89). -/
theorem freezeChecked_windows {kindOk : Bool} {output window : Byte} {act : Fin 4 → Fin 8 → Fin 8 → Answer} (hs : WindowsLegal s)
    (h : ∀ o w i, (s.freeze o w).isFrozen = false → (s.store i).binding.isSome = true →
      activeContent s o w = (s.store i).binding.map Content.source → WindowsLegal (act o w i).state) :
    WindowsLegal (freezeChecked kindOk output window s act).state := by
  unfold freezeChecked
  split
  · rename_i o w _ _
    split
    · exact hs
    · rename_i src hc
      split
      · exact hs
      · rename_i i hi
        have bound := storeOf_binding hi
        split
        · exact hs
        · rename_i hfree
          refine h o w i ?_ (by rw [bound]; rfl) (by rw [bound]; exact hc)
          cases hf : s.freeze o w with
          | frozen j k shared => exact absurd hf (hfree j k shared)
          | _ => rfl
    · exact hs
  · exact hs

theorem freezeNowAnswer_windows (output window kind : Byte) (hs : WindowsLegal s)
    (hsel : ∀ i k, ((s.store i).slot k).selected = true → ((s.store i).slot k).number?.isSome = true) :
    WindowsLegal (freezeNowAnswer output window kind s).state := by
  refine freezeChecked_windows hs fun o w i hfree hb hc => ?_
  unfold freezeNowOn
  split
  · exact pinAnswer_windows false hs (hsel i) (.inl ‹_›) hfree hb hc
  · exact pinAnswer_windows false hs (hsel i) (.inr ‹_›) hfree hb hc
  · exact hs

theorem freezeAtAnswer_windows (output window tag : Byte) (hs : WindowsLegal s) :
    WindowsLegal (freezeAtAnswer output window tag s).state := by
  refine freezeChecked_windows hs fun o w i hfree hb hc => setFreeze_windows hs hfree rfl ?_
  rintro _ ⟨⟩
  exact ⟨hb, hc⟩

theorem thawAnswer_windows (output window : Byte) (hs : WindowsLegal s) : WindowsLegal (thawAnswer output window s).state := by
  unfold thawAnswer
  split
  · exact setTransition_idle_windows _ _ (releaseFreeze_windows _ _ hs)
  · exact hs

/-! ### SUBSCRIBE and RELEASE -/

/-- A record that is forgotten where it is an arming on store `i` (R97). -/
theorem forgotten_freeze (i : Fin 8) (s : State) (o : Fin 4) (w : Fin 8) (h : ∀ k, restsOn i k (s.freeze o w) = false) :
    (forgotten i s).freeze o w = if storeNamed (s.freeze o w) = some i then .none else s.freeze o w := by
  have own : (forgotten i s).freeze o w = forget i (s.freeze o w) := by rw [State.freeze, forgotten, gget_gmap]; rfl
  rw [own]
  cases hf : s.freeze o w with
  | none => rfl
  | armed tag j => simp [forget, storeNamed]
  | frozen j k shared =>
    have : j ≠ i := by simpa [hf, restsOn] using h k
    simp [forget, storeNamed, this]

/-- After the end of the binding of a store without pins, no record names the store, and the others are as they were. -/
theorem endBinding_freeze {i : Fin 8} (hs : WindowsLegal s) (hp : ∀ k, ((s.store i).slot k).pins = 0) (o : Fin 4) (w : Fin 8) :
    (endBinding i s).freeze o w = if storeNamed (s.freeze o w) = some i then .none else s.freeze o w := by
  cases hb : (s.store i).binding with
  | none =>
    rw [endBinding_unbound hb, if_neg]
    intro hn
    obtain ⟨bound, -⟩ := hs.freezes o w i hn
    rw [hb] at bound
    cases bound
  | some src =>
    rw [endBinding_bound hb, State.freeze, leaveLive_alters src (forgotten i s) .freezes (by decide)]
    exact forgotten_freeze i s o w fun k => hs.not_restsOn (hp k) o w

theorem endBinding_stores (i : Fin 8) (s : State) : (endBinding i s).stores = s.stores := by
  have left : ∀ src t, (leaveLive src t).stores = t.stores := fun src t => by
    unfold leaveLive
    split
    · simp [referenceLoss]
    · rfl
  cases hb : (s.store i).binding with
  | none => rw [endBinding_unbound hb]
  | some src => rw [endBinding_bound hb, left]; rfl

theorem endBinding_layout (i : Fin 8) (s : State) :
    (∀ o, ((endBinding i s).output o).active = (s.output o).active) ∧ (endBinding i s).transitions = s.transitions := by
  cases hb : (s.store i).binding with
  | none => rw [endBinding_unbound hb]; exact ⟨fun _ => rfl, rfl⟩
  | some src =>
    rw [endBinding_bound hb]
    have left := leaveLive_alters src (forgotten i s)
    exact ⟨left .active (by decide), left .transitions (by decide)⟩

/-- A store without pins is bound anew or released, and has no pins then. -/
theorem rebound_windows {i : Fin 8} {x : Store} (hs : WindowsLegal s) (hp : ∀ k, ((s.store i).slot k).pins = 0)
    (hx : ∀ k, (x.slot k).pins = 0) : WindowsLegal ((endBinding i s).setStore i x) := by
  have freeze := endBinding_freeze hs hp
  obtain ⟨active, transitions⟩ := endBinding_layout i s
  have stores : ∀ j, (endBinding i s).store j = s.store j := fun j => by rw [State.store, endBinding_stores, State.store]
  generalize endBinding i s = u at *
  have content : ∀ o w, activeContent (u.setStore i x) o w = activeContent s o w := fun o w => activeContent_congr (active o)
  have transition : ∀ o w, (u.setStore i x).transition o w = s.transition o w := fun o w => by
    rw [State.setStore_transition, State.transition, transitions, State.transition]
  have store : ∀ j, (u.setStore i x).store j = if i = j then x else s.store j := fun j => by rw [State.setStore_store, stores]
  have rests : ∀ j k, frozenOn (u.setStore i x) j k = frozenOn s j k := fun j k => frozenOn_congr fun o w => by
    rw [State.setStore_freeze, freeze]
    split
    · rename_i hn
      cases hf : s.freeze o w with
      | frozen j' k' shared =>
        simp only [hf, storeNamed, Option.some.injEq] at hn
        have := hs.not_restsOn (hp k') o w
        simp [hf, restsOn, hn] at this
      | _ => rfl
    · rfl
  have pins : ∀ j k, ((if i = j then x else s.store j).slot k).pins = ((s.store j).slot k).pins := fun j k => by
    split
    · subst_vars; rw [hx, hp]
    · rfl
  refine ⟨fun o w => ?_, fun o w => ?_, fun o w hfrozen => ?_, fun j k => ?_, fun j k hpos => ?_, fun j k k' hk hk' => ?_⟩
  · rw [content, transition]; exact hs.transitions o w
  · rw [content, State.setStore_freeze, freeze]
    split
    · exact freezeFits_none _ _
    · rename_i hn
      intro j hj
      have : i ≠ j := fun e => hn (e ▸ hj)
      rw [store, if_neg this]
      exact hs.freezes o w j hj
  · rw [transition]
    rw [State.setStore_freeze, freeze] at hfrozen
    split at hfrozen
    · cases hfrozen
    · exact hs.frozenIdle o w hfrozen
  · rw [store, pins, rests]; exact hs.pins j k
  · rw [store] at hpos ⊢
    rw [pins] at hpos
    have : i ≠ j := fun e => by subst e; rw [hp] at hpos; omega
    rw [if_neg this]
    exact hs.complete j k hpos
  · rw [store, pins] at hk hk'
    exact hs.onePinned j k k' hk hk'

/-- An unbound store has no pins, since no record names it (R88, R95). -/
theorem WindowsLegal.unbound_unpinned (hs : WindowsLegal s) {i : Fin 8} (h : (s.store i).binding = none) (k : Fin 3) :
    ((s.store i).slot k).pins = 0 := by
  rw [hs.pins, frozenOn_eq_countP, List.countP_eq_zero]
  rintro ⟨o, w⟩ -
  cases hf : s.freeze o w with
  | frozen j k' shared =>
    obtain ⟨bound, -⟩ := hs.freezes o w j (by rw [hf]; rfl)
    have : j ≠ i := fun e => by rw [e, h] at bound; cases bound
    simp [restsOn, this]
  | _ => simp [restsOn]

theorem subscribeAnswer_windows (store source : Byte) (hs : WindowsLegal s) :
    WindowsLegal (subscribeAnswer store source s).state := by
  unfold subscribeAnswer
  split
  · rename_i i src _ _
    split
    · exact hs
    · split
      · exact hs
      · rename_i hpinned
        refine rebound_windows hs ?_ fun k => by simp [Store.bound, Store.reset, Store.slot, SlotRecord.reset]
        cases hb : (s.store i).binding with
        | none => exact hs.unbound_unpinned hb
        | some src' =>
          refine pinnedSlot_none.1 ?_
          simpa [hb, Store.pinned] using hpinned
  · exact hs

theorem releaseAnswer_windows (store : Byte) (hs : WindowsLegal s) : WindowsLegal (releaseAnswer store s).state := by
  unfold releaseAnswer
  split
  · exact hs
  · split
    · exact hs
    · split
      · exact hs
      · rename_i hpinned
        refine rebound_windows hs (pinnedSlot_none.1 ?_) fun k => by simp [Store.released, Store.slot, SlotRecord.reset]
        simpa [Store.pinned] using hpinned

/-! ### Every command -/

/-- A part whose windows run nothing and freeze nothing, and whose slots have no pins, is legal. -/
theorem windows_at_rest (ht : ∀ o w, s.transition o w = .idle) (hf : ∀ o w, s.freeze o w = .none)
    (hp : ∀ i k, ((s.store i).slot k).pins = 0) : WindowsLegal s := by
  refine ⟨fun o w => ?_, fun o w => ?_, fun o w _ => ht o w, fun i k => ?_, fun i k h => ?_, fun i j k h => ?_⟩
  · rw [ht]; exact transitionFits_idle _
  · rw [hf]; exact freezeFits_none _ _
  · rw [hp, frozenOn_eq_countP, eq_comm, List.countP_eq_zero]
    intro ow _
    rw [hf]
    exact Bool.false_ne_true
  · rw [hp] at h; exact absurd h (by omega)
  · rw [hp] at h; exact absurd h (by omega)

theorem restarted_windows (s : State) : WindowsLegal (restarted s) := by
  refine windows_at_rest (fun o w => ?_) (fun o w => ?_) fun i k => ?_
  · simp [restarted, State.reset, State.transition]
  · simp [restarted, State.reset, State.freeze]
  · simp [restarted, State.reset, State.store, Store.reset, Store.slot, SlotRecord.reset]

theorem onAddressed_windows {q : ReqHead} {code : Byte} {own : State → Answer} (ho : ∀ s, WindowsLegal s → WindowsLegal (own s).state)
    (e : onAddressed q code own s = .next t) (hs : WindowsLegal s) : WindowsLegal t :=
  onRequest_holds still_windows ho (fun _ h => h) e hs

/-- An addressed request does what its unit does, or nothing. -/
theorem onAddressed_cases {q : ReqHead} {code : Byte} {own : State → Answer} (e : onAddressed q code own s = .next t) :
    Alters [] s t ∨ Alters [] (own s.goodCell).state t := by
  cases e
  split
  · simp only
    split
    · exact .inl (.after (send_alters _ _) (goodCell_alters s))
    · split
      · exact .inr (send_alters _ _)
      · exact .inl (.after (send_alters _ _) (goodCell_alters s))
  · exact .inl (noCell_alters s)

/-- Every command keeps transitions, freezes and pins legal. -/
theorem exec_windows {c : Instr} (e : exec c s = .next t) (hst : ∀ i, StoreLegal (s.store i)) (hl : ListsLegal s)
    (hs : WindowsLegal s) : WindowsLegal t := by
  cases c with
  | subscribe => exact onAddressed_windows (fun _ h => subscribeAnswer_windows _ _ h) e hs
  | release => exact onAddressed_windows (fun _ h => releaseAnswer_windows _ h) e hs
  | take => exact onAddressed_windows (fun _ h => takeAnswer_windows _ _ _ _ _ _ h) e hs
  | freezeNow q output window kind =>
    rcases onAddressed_cases e with h | h
    · exact still_windows _ _ h hs
    · refine still_windows _ _ h (freezeNowAnswer_windows _ _ _ (still_windows _ _ (goodCell_alters s) hs) fun i k hk => ?_)
      obtain ⟨-, -, -, -, -, selected, -⟩ := hst i
      exact selected k hk
  | freezeAt => exact onAddressed_windows (fun _ h => freezeAtAnswer_windows _ _ _ h) e hs
  | thaw => exact onAddressed_windows (fun _ h => thawAnswer_windows _ _ h) e hs
  | restart => exact onRequest_holds still_windows (fun s _ => restarted_windows s) (fun s _ => restarted_windows s) e hs
  | powerOn => cases e; exact windowsLegal_iff.2 ⟨reset_transitions, reset_freezes⟩
  | outputFrameEnd order =>
    cases e
    split
    · exact frameEnd_windows order hl hs
    · exact hs
  | listAdvance r =>
    cases e
    split
    · exact still_windows _ _ (mark_alters _ _) (advanceList_windows r (hl r).2.2.2.1 hs)
    · exact hs
  | transitionEnd o w =>
    cases e
    split
    · exact still_windows _ _ (mark_alters _ _) (setTransition_idle_windows o w hs)
    · exact hs
  -- No other command alters what the legality reads.
  | _ =>
    exact (exec_alters e).windows (of_decide_eq_true rfl) (of_decide_eq_true rfl) (of_decide_eq_true rfl) (of_decide_eq_true rfl)
      (of_decide_eq_true rfl) hs

theorem idleTick_alters (s : State) : Alters [.rgu, .scanout] s (idleTick s) := by
  unfold idleTick
  split
  · split
    · exact (moveTick_alters _ _).mono (by decide)
    · exact .refl _ s
  · exact (setRgu_alters _ s).mono (by decide)
  · exact .refl _ s

/-- Settles O59: each command keeps the records and the pins legal, and a tick touches none of them. -/
theorem stepsKeepTransitionsAndFreezes : Obligations.StepsKeepTransitionsAndFreezes := by
  rintro s t ⟨⟨hst, -⟩, hl, hw⟩ e
  have hs := windowsLegal_iff.2 hw
  refine windowsLegal_iff.1 ?_
  unfold step at e
  split at e
  · cases e
    exact (idleTick_alters s).windows (by decide) (by decide) (by decide) (by decide) (by decide) hs
  · exact exec_windows (s := { s with pending := _ }) e hst hl (still_windows s _ (.still rfl) hs)

end Sys2Proof.Proofs
end

section
/-! PROOFS. The output frame start: the frame's c and L, and the plans that it latches. -/

namespace Sys2Proof.Proofs

open Sys2Proof.Machine Sys2Proof.Claims Sys2Proof.Safety

variable {s : State} {fb : Colour} {src : Fin 16}

/-! ### The frame that starts -/

/-- Both events that start a frame start it so, each in its own state of the scan (R115). -/
theorem exec_frameStart (s : State) : (s.rgu.scan = .between → exec .outputFrameStart s = .next (frameStart s))
    ∧ (s.rgu.scan = .fill → exec .powerOnFillEnd s = .next (frameStart s)) :=
  ⟨fun h => congrArg Host.Outcome.next (if_pos h), fun h => congrArg Host.Outcome.next (if_pos h)⟩

@[simp] theorem frameStart_plan (s : State) (o : Fin 4) : tget (frameStart s).plans o = some (planOf s o) := by
  rw [frameStart, latchPlans, tget_ofFn]
  rfl

theorem Raster.blanking_eq {r : Raster} (h : r.activeHeight ≤ r.totalHeight) :
    (r.blanking : Int) = ((r.totalHeight : Int) - r.activeHeight) * r.totalWidth := by
  rw [Raster.blanking, Nat.cast_mul, Nat.cast_sub h]

/-- The floor raises c exactly where the leading blanking would be below 1024 ticks (R123). -/
theorem flooredCorr_eq {r : Raster} (trim corr : Int) :
    flooredCorr r trim corr = if 1024 ≤ r.blanking + trim + corr then corr else 1024 - r.blanking - trim := by
  simp only [flooredCorr, Config.blankingFloor]
  split <;> omega

/-- Settles O50: the blocks' own subtractions and the floor agree with the spec's integers in a legal raster. -/
theorem frameStartFixesTheFrame : Obligations.FrameStartFixesTheFrame := by
  intro s c L hr hc hL
  have hb := Raster.blanking_eq (r := s.rgu.raster) (by omega)
  have corr : (fixFrame s.rgu).corr = c := by rw [hc, ← hb]; exact flooredCorr_eq _ _
  have length : (fixFrame s.rgu).length = L := by
    have total : (s.rgu.raster.nominal : Int) + s.rgu.trim + (fixFrame s.rgu).corr = L := by
      rw [hL, corr, Raster.nominal, Nat.cast_mul]
    show ((s.rgu.raster.nominal : Int) + s.rgu.trim + (fixFrame s.rgu).corr).toNat = L
    rw [total, Int.toNat_natCast]
  refine ⟨frameStart s, ?_, fun o => by rw [frameStart_plan]; rfl, exec_frameStart s⟩
  rw [← corr, ← length]
  rfl

/-! ### What content resolves to -/

theorem storeOf_unbound (h : Unbound s src) : s.storeOf src = none := by
  simpa [State.storeOf, List.find?_eq_none] using h

theorem storeOf_boundAt {i : Fin 8} (h : BoundAt s src i) : s.storeOf src = some i := by
  cases hf : s.storeOf src with
  | none => exact absurd h.1 (by simpa using List.find?_eq_none.1 hf i (List.mem_finRange i))
  | some j => rw [h.2 j (storeOf_binding hf)]

theorem selectedSlot_none {st : Store} (h : ∀ k, (st.slot k).selected = false) : st.selectedSlot = none := by
  simpa [Store.selectedSlot, List.find?_eq_none] using h

theorem selectedSlot_eq {st : Store} {k : Fin 3} (h : (st.slot k).selected = true) (only : ∀ j, (st.slot j).selected = true → j = k) :
    st.selectedSlot = some k := by
  cases hf : st.selectedSlot with
  | none => exact absurd h (List.find?_eq_none.1 hf k (List.mem_finRange k))
  | some j => rw [only j (selectedSlot_some hf)]

theorem slotSide_of_frame {i : Fin 8} {k : Fin 3} {f : FrameInfo} (h : ((s.store i).slot k).frame = some f) :
    slotSide s fb i k = .slot i k f.width f.height := by simp only [slotSide, h]

/-- A source resolves to the selected slot of its store while that is LIVE or STALE, and to the fallback otherwise (R28). -/
theorem sourceSide_drawn (s : State) (fb : Colour) (src : Fin 16) : SourceDrawn s fb src (sourceSide s fb src) := by
  refine ⟨fun h => by simp only [sourceSide, storeOf_unbound h], fun i h => ⟨fun dead => ?_, fun unselected => ?_, ?_⟩⟩
  · simp only [sourceSide, storeOf_boundAt h]
    cases hstate : (s.store i).state with
    | live => exact absurd hstate dead.1
    | stale => exact absurd hstate dead.2
    | unbound => rfl
    | waiting => rfl
    | lost => rfl
  · simp only [sourceSide, storeOf_boundAt h, selectedSlot_none unselected]
    cases (s.store i).state <;> rfl
  · intro k f alive selected only frame
    have slot := slotSide_of_frame (fb := fb) frame
    simp only [sourceSide, storeOf_boundAt h, selectedSlot_eq selected only]
    rcases alive with hstate | hstate <;> rw [hstate] <;> exact slot

theorem shownSide_drawn (s : State) (fb : Colour) (a : Shown) : ShownDrawn s fb a (shownSide s fb a) := by
  cases a with
  | source src => exact sourceSide_drawn s fb src
  | colour c => rfl

/-- A list resolves to its current entry, and to the fallback while it is empty (R29). -/
theorem contentSide_list (s : State) (fb : Colour) (l : Fin 4) :
    (∀ src, (s.list l).entries[(s.list l).position]? = some src → SourceDrawn s fb src (contentSide s fb (.list l)))
    ∧ ((s.list l).entries = [] → contentSide s fb (.list l) = .colour fb) := by
  refine ⟨fun src h => ?_, fun h => ?_⟩
  · simp only [contentSide, RotationList.current, h]
    exact sourceSide_drawn s fb src
  · simp only [contentSide, RotationList.current, h, List.getElem?_nil]

/-! ### The plan -/

/-- A frozen window draws its pinned slot (R30). -/
theorem drawingOf_frozen {o : Fin 4} {r : WindowRecord} {i : Fin 8} {k : Fin 3} {shared : Bool}
    (h : s.freeze o r.number = .frozen i k shared) : drawingOf s o fb r = .single (slotSide s fb i k) := by
  simp only [drawingOf, h]

theorem drawingOf_running {o : Fin 4} {r : WindowRecord} {t : Transition} (h : ∀ i k shared, s.freeze o r.number ≠ .frozen i k shared)
    (ht : s.transition o r.number = .running t) :
    drawingOf s o fb r = .mixed (shownSide s fb t.fromContent) (shownSide s fb t.toContent) t.style t.duration t.position := by
  unfold drawingOf
  split
  · exact absurd ‹_› (h _ _ _)
  · simp_all
  · simp_all

theorem drawingOf_idle {o : Fin 4} {r : WindowRecord} (h : ∀ i k shared, s.freeze o r.number ≠ .frozen i k shared)
    (ht : s.transition o r.number = .idle) : drawingOf s o fb r = .single (contentSide s fb r.content) := by
  unfold drawingOf
  split
  · exact absurd ‹_› (h _ _ _)
  · simp_all
  · rfl

theorem drawingOf_drawn (s : State) (o : Fin 4) (r : WindowRecord) (fb : Colour) : DrawnAs s o r fb (drawingOf s o fb r) := by
  refine ⟨fun i k shared f frozen frame => ?_, fun thawed => ⟨fun t running => ?_, fun idle => ?_⟩⟩
  · rw [drawingOf_frozen frozen, slotSide_of_frame frame]
  · exact ⟨_, _, drawingOf_running thawed running, shownSide_drawn s fb _, shownSide_drawn s fb _⟩
  · refine ⟨_, drawingOf_idle thawed idle, ?_, ?_, ?_⟩
    · intro src content
      rw [content]
      exact sourceSide_drawn s fb src
    · intro c content
      rw [content]
      rfl
    · intro l content
      rw [content]
      exact contentSide_list s fb l

/-- Settles O51: a plan is the map of the active records' entries, each with its own drawing. -/
theorem frameStartLatchesThePlans : Obligations.FrameStartLatchesThePlans := by
  intro s
  refine ⟨frameStart s, (exec_frameStart s).1, (exec_frameStart s).2, fun o => ⟨_, frameStart_plan s o, ⟨rfl, rfl, rfl, rfl⟩, ?_, ?_⟩⟩
  · intro dark
    simp only [planOf, dark]
  · intro showing
    have entries : (planOf s o).entries = (s.output o).active.map (planEntry s o) := by simp only [planOf, showing]
    rw [entries]
    refine ⟨List.length_map _, fun n r e hr he => ?_⟩
    rw [List.getElem?_map, hr] at he
    cases he
    refine ⟨rfl, rfl, rfl, rfl, rfl, rfl, rfl, ?_, ?_, ?_, ?_, drawingOf_drawn s o r _⟩
    · intro absent
      simp [planEntry, absent]
    · intro b given
      simp [planEntry, given]
    · intro absent
      simp [planEntry, latchedFallback, absent]
    · intro c given
      simp [planEntry, latchedFallback, given]

end Sys2Proof.Proofs
end

section
/-! PROOFS. The write queue's head, when no fetch waits, and COMPLETION with its renumbering. -/

namespace Sys2Proof.Proofs

open Sys2Proof.Machine Sys2Proof.Claims Sys2Proof.Safety

variable {s : State} {st : Store} {r : SlotRecord} {f : FrameInfo} {i : Fin 8} {j k : Fin 3} {a : Nat}

/-! ### The queue's head -/

/-- With no fetch waiting, FMC grants the queue's head (R45). -/
theorem arbitrate_head (hscan : s.rgu.scan ≠ .fill) (hf : s.fmc.fetches = []) (hq : s.queue ≠ []) : s.arbitrate = some .queueHead := by
  rw [State.arbitrate, hf]
  split
  · exact absurd ‹_› hscan
  · cases ‹longestWaiting [] = some _›
  · exact absurd ‹_› hq
  · rfl

theorem grantHead_quiet (hf : s.fmc.fetches = []) (rest : List QueueEntry) :
    grantHead rest s = { s with queue := rest, fmc := ⟨[], some .queueHead⟩ } := by simp only [grantHead, hf]

theorem picWriteStep_quiet {line first : Nat} {px : List Colour} {rest : List QueueEntry} (hscan : s.rgu.scan ≠ .fill)
    (hf : s.fmc.fetches = []) (hq : s.queue = .pic i k line first px :: rest) :
    picWriteStep s = { grantHead rest s with memory := memWriteRun s.memory i k line first px } := by
  simp only [picWriteStep, serveFetches_of_nil hf, arbitrate_head hscan hf (hq ▸ List.cons_ne_nil _ _), hq]

theorem completionStep_quiet {rest : List QueueEntry} (hscan : s.rgu.scan ≠ .fill) (hf : s.fmc.fetches = [])
    (hq : s.queue = .close i k :: rest) : completionStep s = completeSlot i k (grantHead rest s) := by
  simp only [completionStep, serveFetches_of_nil hf, arbitrate_head hscan hf (hq ▸ List.cons_ne_nil _ _), hq]

/-- A CLOSING slot is completed with its own frame (R61). -/
theorem completeSlot_closing (hf : ((s.store i).slot k).frame = some f) (hp : f.phase = .closing) :
    completeSlot i k s = s.setStore i ((s.store i).complete k f) := by
  simp only [completeSlot, hf, hp, if_true]

/-- COMPLETION, up to what the store becomes. -/
theorem exec_completion_quiet {rest : List QueueEntry} (hscan : s.rgu.scan ≠ .fill) (hf : s.fmc.fetches = [])
    (hq : s.queue = .close i k :: rest) (hframe : ((s.store i).slot k).frame = some f) (hp : f.phase = .closing) :
    exec .completion s
      = .next { s.setStore i ((s.store i).complete k f) with queue := rest, fmc := ⟨[], some .queueHead⟩ } := by
  show Host.Outcome.next (completionStep s) = _
  rw [completionStep_quiet hscan hf hq, completeSlot_closing (s := grantHead rest s) hframe hp, grantHead_quiet hf]
  rfl

theorem bumped_eq (n : Nat) : bumped n = satInc n := by
  simp only [bumped, satInc, Config.counterMax]
  split <;> omega

theorem completedState_bound {x : SourceState} (h : x ≠ .unbound) : completedState x = .live := by
  cases x with
  | unbound => exact absurd rfl h
  | _ => rfl

/-! ### Renumbering -/

theorem renumber_of_complete {g : FrameInfo} (h : r.frame = some g) (hp : g.phase = .complete a) (n : Nat) :
    r.renumber n = { r with frame := some { g with phase := .complete n } } := by
  obtain ⟨frame, selected, pins⟩ := r
  obtain ⟨phase, tag, width, height, cells, next⟩ := g
  cases h
  cases hp
  rfl

theorem renumber_of_not_complete (h : ∀ a, ¬ CompleteAs r a) (n : Nat) : r.renumber n = r := by
  unfold SlotRecord.renumber
  split
  · rename_i m _ _ _ _ _ hr
    exact absurd ⟨_, hr, rfl⟩ (h m)
  · rfl

/-- A slot's rank counts the slots that are COMPLETE with a number not greater than its own (R53). -/
theorem rank_eq_countP {p : Fin 3 → Bool} (ha : CompleteAs (st.slot j) a)
    (h : ∀ l, p l = true ↔ ∃ b, CompleteAs (st.slot l) b ∧ b ≤ a) : st.rank j = (List.finRange 3).countP p := by
  rw [Store.rank, ← List.countP_eq_length_filter]
  refine List.countP_congr fun l _ => ?_
  simp only [h l, ← number?_eq_some, number?_eq_some.2 ha]
  cases (st.slot l).number? <;> simp

theorem countP_eq_slot (j : Fin 3) : (List.finRange 3).countP (fun l => decide (l = j)) = 1 := by revert j; decide

theorem countP_ne_slot (k : Fin 3) : (List.finRange 3).countP (fun l => decide (l ≠ k)) = 2 := by revert k; decide

/-- The oldest of a store's COMPLETE slots has rank 1. -/
theorem rank_of_oldest (distinct : ∀ j k a, CompleteAs (st.slot j) a → CompleteAs (st.slot k) a → j = k)
    (ha : CompleteAs (st.slot j) a) (oldest : ∀ l b, CompleteAs (st.slot l) b → a ≤ b) : st.rank j = 1 := by
  rw [rank_eq_countP (p := fun l => decide (l = j)) ha fun l => ?_]
  · exact countP_eq_slot j
  · rw [decide_eq_true_iff]
    refine ⟨fun e => ⟨a, e ▸ ha, le_rfl⟩, ?_⟩
    rintro ⟨b, hb, hle⟩
    cases Nat.le_antisymm hle (oldest l b hb)
    exact distinct l j _ hb ha

/-- With one of the three slots not COMPLETE, a slot that is newer than another has rank 2. -/
theorem rank_of_newer {l : Fin 3} {b : Nat} (hk : ∀ c, ¬ CompleteAs (st.slot k) c)
    (ha : CompleteAs (st.slot j) a) (hb : CompleteAs (st.slot l) b) (older : b < a) : st.rank j = 2 := by
  have hjk : j ≠ k := fun e => hk a (e ▸ ha)
  have hlk : l ≠ k := fun e => hk b (e ▸ hb)
  have hlj : l ≠ j := by
    rintro rfl
    have := (number?_eq_some.2 ha).symm.trans (number?_eq_some.2 hb)
    simp only [Option.some.injEq] at this
    omega
  rw [rank_eq_countP (p := fun x => decide (x ≠ k)) ha fun x => ?_]
  · exact countP_ne_slot k
  · rw [decide_eq_true_iff]
    constructor
    · intro hx
      have : x = j ∨ x = l := by omega
      rcases this with rfl | rfl
      · exact ⟨a, ha, le_rfl⟩
      · exact ⟨b, hb, older.le⟩
    · rintro ⟨c, hc, -⟩ rfl
      exact hk c hc

theorem renumbered_slot (st : Store) (j : Fin 3) : st.renumbered.slot j = (st.slot j).renumber (st.rank j) := by
  simp only [Store.renumbered, Store.slot, tget_tmap]

/-- A store whose counter has room completes the slot with the next number (R53, R61, R70). -/
theorem complete_of_room (h : st.completions < 4294967295) (live : st.state ≠ .unbound) (k : Fin 3) (f : FrameInfo) :
    st.complete k f = { withFrame st k { f with phase := .complete (st.completions + 1) } with
      completions := st.completions + 1, completed := bumped st.completed, state := .live } := by
  have ready : st.readyToComplete = st := if_neg (by rw [Config.completionMax]; omega)
  simp only [Store.complete, ready, completedState_bound live, bumped_eq]
  rfl

/-- A store whose counter is at its end is renumbered first (R53). -/
theorem complete_of_full (h : st.completions = 4294967295) (live : st.state ≠ .unbound) (hk : ∀ a, ¬ CompleteAs (st.slot k) a)
    (f : FrameInfo) :
    st.complete k f = { st with
      slots := tset st.renumbered.slots k { st.slot k with frame := some { f with phase := .complete (st.renumbered.completions + 1) } }
      completions := st.renumbered.completions + 1, completed := bumped st.completed, state := .live } := by
  have ready : st.readyToComplete = st.renumbered := if_pos (by rw [Config.completionMax]; omega)
  have slot : st.renumbered.slot k = st.slot k := by rw [renumbered_slot, renumber_of_not_complete hk]
  simp only [Store.complete, ready, slot, bumped_eq]
  rw [show st.renumbered.state = st.state from rfl, completedState_bound live]
  rfl

/-- Settles O43: of the two slots beside the CLOSING one, the older COMPLETE slot has rank 1 and the newer rank 2. -/
theorem completionCompletesTheSlot : Obligations.CompletionCompletesTheSlot := by
  intro s i k rest f hscan hfetch hq hf hp live
  have run := exec_completion_quiet hscan hfetch hq hf hp
  have notComplete : ∀ a, ¬ CompleteAs ((s.store i).slot k) a := by
    rintro a ⟨g, hg, hga⟩
    cases hf.symm.trans hg
    cases hp.symm.trans hga
  refine ⟨fun room => ?_, fun full legal => ?_⟩
  · rw [run, complete_of_room room live]
  obtain ⟨-, -, -, -, -, -, -, unique, -⟩ := legal
  have distinct : ∀ j k a, CompleteAs ((s.store i).slot j) a → CompleteAs ((s.store i).slot k) a → j = k :=
    fun j k a hj hk => unique j k a (number?_eq_some.2 hj) (number?_eq_some.2 hk)
  have read : ∀ (j : Fin 3) (x : SlotRecord), j ≠ k →
      tget (tset (s.store i).renumbered.slots k x) j = ((s.store i).slot j).renumber ((s.store i).rank j) := fun j x hj => by
    rw [tget_tset, if_neg (Ne.symm hj)]
    exact renumbered_slot _ j
  refine ⟨_, _, rfl, run.trans (by rw [complete_of_full full live notComplete]; rfl), by rw [tget_tset, if_pos rfl]; rfl, ?_⟩
  refine fun j hj => ⟨fun no => by rw [read j _ hj, renumber_of_not_complete no], fun g a hg ha => ⟨fun oldest => ?_, fun l b hb older => ?_⟩⟩
  · rw [read j _ hj, renumber_of_complete hg ha, rank_of_oldest distinct ⟨g, hg, ha⟩ oldest]
  · rw [read j _ hj, renumber_of_complete hg ha, rank_of_newer notComplete ⟨g, hg, ha⟩ hb older]

end Sys2Proof.Proofs
end

section
/-! PROOFS. What a plan entry covers and samples, in the words of the statements. -/

namespace Sys2Proof.Proofs

open Sys2Proof.Machine Sys2Proof.Claims Sys2Proof.Safety

variable {p : FramePlan} {e : PlanEntry} {x y : Nat}

theorem active_iff_lt : p.active x y = true ↔ x < p.activeWidth ∧ y < p.activeHeight := by
  rw [FramePlan.active_iff]
  omega

theorem covers_iff_Covers : p.covers e x y = true ↔ Covers p e x y := by
  rw [FramePlan.covers_iff, active_iff_lt, Rect.covers_iff]
  exact and_assoc

/-- Where an inner pixel lies in the inner rectangle, as the sampling reads it (R35, R37). -/
theorem innerAt_offsets {i j w h : Nat} (hin : InnerAt e x y i j w h) :
    ((x : Int) - e.inner.x).toNat = i ∧ ((y : Int) - e.inner.y).toNat = j ∧ e.inner.w.toNat = w ∧ e.inner.h.toNat = h := by
  obtain ⟨hw, hh, -, -, hx, hy⟩ := hin
  simp only [PlanEntry.inner_x, PlanEntry.inner_y, PlanEntry.inner_w, PlanEntry.inner_h]
  omega

/-- A pixel lies in the inner rectangle exactly when it is some columns and lines into it. -/
theorem inner_covers_iff : e.inner.covers x y = true ↔ ∃ i j w h, InnerAt e x y i j w h := by
  rw [Rect.covers_iff]
  simp only [PlanEntry.inner_x, PlanEntry.inner_y, PlanEntry.inner_w, PlanEntry.inner_h]
  constructor
  · intro hc
    refine ⟨((x : Int) - e.inner.x).toNat, ((y : Int) - e.inner.y).toNat, e.inner.w.toNat, e.inner.h.toNat, ?_⟩
    simp only [InnerAt, PlanEntry.inner_x, PlanEntry.inner_y, PlanEntry.inner_w, PlanEntry.inner_h]
    omega
  · rintro ⟨i, j, w, h, hw, hh, hi, hj, hx, hy⟩
    omega

/-! ### Samples -/

theorem effectiveCrop_isSome {crop : Option Crop} {wf hf : Nat} :
    (effectiveCrop crop wf hf).isSome = true ↔ ∀ c ∈ crop, c.cx0 < wf ∧ c.cy0 < hf := by
  cases crop with
  | none => simp [effectiveCrop]
  | some c =>
    simp only [effectiveCrop, Option.mem_some_iff, forall_eq']
    split
    · simp only [Option.isSome_none, Bool.false_eq_true, false_iff]
      omega
    · simp only [Option.isSome_some, true_iff]
      omega

theorem side_sampled_iff {crop : Option Crop} {side : Side} : side.sampled crop = true ↔ Sampled crop side := by
  cases side with
  | colour c => simp [Side.sampled, Sampled]
  | slot i k wf hf => exact effectiveCrop_isSome

theorem drawing_sampled_iff {crop : Option Crop} {d : Drawing} : d.sampled crop = true ↔
    (∃ side, d = .single side ∧ Sampled crop side)
    ∨ ∃ a b st f n, d = .mixed a b st f n ∧ (Sampled crop a ∨ Sampled crop b) := by
  cases d with
  | single side =>
    simp only [Drawing.sampled, side_sampled_iff, Drawing.single.injEq, exists_eq_left', reduceCtorEq, false_and, exists_false, or_false]
  | mixed a b st f n =>
    simp only [Drawing.sampled, Bool.or_eq_true, side_sampled_iff, reduceCtorEq, false_and, exists_false, false_or]
    constructor
    · exact fun h => ⟨a, b, st, f, n, rfl, h⟩
    · rintro ⟨_, _, _, _, _, ⟨⟩, h⟩
      exact h

/-- A pixel needs samples where an entry of a SHOWING plan covers it and takes one there (R46). -/
theorem plan_sampled_iff : p.sampled x y = true ↔ p.mode = .showing ∧ ∃ e ∈ p.entries,
    Covers p e x y ∧ (∃ i j w h, InnerAt e x y i j w h)
    ∧ ((∃ side, e.drawing = .single side ∧ Sampled e.crop side)
      ∨ ∃ a b st d n, e.drawing = .mixed a b st d n ∧ (Sampled e.crop a ∨ Sampled e.crop b)) := by
  simp only [FramePlan.sampled, Bool.and_eq_true, decide_eq_true_iff, List.any_eq_true, covers_iff_Covers, inner_covers_iff,
    drawing_sampled_iff, and_assoc]

end Sys2Proof.Proofs
end

section
/-! PROOFS. FMC: its arbitration, the fetches it serves, and the run that PIC_WRITE writes. -/

namespace Sys2Proof.Proofs

open Sys2Proof.Machine Sys2Proof.Claims Sys2Proof.Safety

variable {s : State} {f g : Fetch} {i : Fin 8} {k : Fin 3} {line column : Nat} {m : List (Nat × Colour)}

/-! ### Frame memory's numbering and a run of pixels -/

/-- No two of the pixels that the slots have room for share an address (R43, log 10). -/
theorem position_injective {i' : Fin 8} {k' : Fin 3} {line' column' : Nat} (hl : line < 1200) (hl' : line' < 1200) (hc : column < 1920)
    (hc' : column' < 1920) (h : position i k line column = position i' k' line' column') :
    i = i' ∧ k = k' ∧ line = line' ∧ column = column' := by
  simp only [position, Config.slotLines, Config.slotColumns] at h
  omega

/-- A run leaves every address alone that is none of its pixels'. -/
theorem memRead_memWriteRun_elsewhere (px : List Colour) (hm : memWf m = true) (a : Nat)
    (ha : ∀ n, n < px.length → column + n < 1920 → a ≠ position i k line (column + n)) :
    memRead (memWriteRun m i k line column px) a = memRead m a := by
  induction px generalizing m column with
  | nil => rfl
  | cons c px ih =>
    simp only [memWriteRun]
    split
    · rename_i room
      have here : a ≠ position i k line column := ha 0 (by simp) room.2
      rw [ih (memWrite_wf _ _ hm) fun n hn hcol => ?_, memRead_memWrite _ _ _ hm, if_neg here.symm]
      rw [Nat.add_right_comm, Nat.add_assoc]
      exact ha (n + 1) (by simpa using hn) (by omega)
    · rfl

/-- A run puts each of its pixels that stands before column 1920 at its place along the line (R60). -/
theorem memRead_memWriteRun {px : List Colour} {n : Nat} {c : Colour} (hm : memWf m = true) (hl : line ≤ 1199) (hn : px[n]? = some c)
    (hc : column + n < 1920) : memRead (memWriteRun m i k line column px) (position i k line (column + n)) = c := by
  induction px generalizing m column n with
  | nil => cases hn
  | cons d px ih =>
    have room : line < Config.slotLines ∧ column < Config.slotColumns := ⟨by rw [Config.slotLines]; omega, by rw [Config.slotColumns]; omega⟩
    simp only [memWriteRun, if_pos room]
    cases n with
    | zero =>
      cases hn
      rw [memRead_memWriteRun_elsewhere px (memWrite_wf _ _ hm), memRead_memWrite _ _ _ hm]
      · exact if_pos rfl
      · intro n _ hn he
        obtain ⟨-, -, -, eq⟩ := position_injective (by omega) (by omega) (by omega) hn he
        omega
    | succ n =>
      rw [← Nat.add_assoc, Nat.add_right_comm]
      exact ih (memWrite_wf _ _ hm) hn (by omega)

/-! ### Arbitration -/

/-- `f` is granted before `g`: it has waited longer, or as long for an output not above (R45). -/
def Precedes (f g : Fetch) : Prop := f.raised < g.raised ∨ (f.raised = g.raised ∧ f.output ≤ g.output)

theorem Precedes.antisymm (h : Precedes f g) (h' : Precedes g f) : f = g := by
  obtain ⟨o, n⟩ := f
  obtain ⟨o', n'⟩ := g
  simp only [Precedes] at h h'
  have : o = o' ∧ n = n' := by omega
  rw [this.1, this.2]

/-- The fetch that has waited longest precedes every one that waits. -/
theorem longestWaiting_precedes {l : List Fetch} (h : longestWaiting l = some f) : ∀ g ∈ l, Precedes f g := by
  induction l generalizing f with
  | nil => cases h
  | cons x l ih =>
    have self : Precedes x x := .inr ⟨rfl, le_rfl⟩
    simp only [longestWaiting] at h
    split at h
    · rename_i empty
      cases h
      rw [longestWaiting_none.1 empty]
      simpa using self
    · rename_i y hy
      have least := ih hy
      split at h <;> cases h <;> rename_i order
      · refine List.forall_mem_cons.2 ⟨self, fun g hg => ?_⟩
        have := least g hg
        simp only [Precedes] at *
        omega
      · refine List.forall_mem_cons.2 ⟨?_, least⟩
        simp only [Precedes]
        omega

theorem longestWaiting_iff {l : List Fetch} : longestWaiting l = some f ↔ f ∈ l ∧ ∀ g ∈ l, Precedes f g := by
  refine ⟨fun h => ⟨longestWaiting_mem h, longestWaiting_precedes h⟩, fun ⟨hf, least⟩ => ?_⟩
  cases h : longestWaiting l with
  | none => rw [longestWaiting_none.1 h] at hf; cases hf
  | some g => rw [(least g (longestWaiting_mem h)).antisymm (longestWaiting_precedes h f hf)]

theorem arbitrate_fill (h : s.rgu.scan = .fill) : s.arbitrate = none := by simp only [State.arbitrate, h]

/-- Outside the fill, a grant is the fetch that has waited longest (R45). -/
theorem arbitrate_fetch (h : s.rgu.scan ≠ .fill) : s.arbitrate = some (.fetch f) ↔ longestWaiting s.fmc.fetches = some f := by
  unfold State.arbitrate
  split
  · exact absurd ‹_› h
  · simp [*]
  · simp [*]
  · simp [*]

/-- Outside the fill, the queue's head is granted exactly when no fetch waits (R45). -/
theorem arbitrate_queueHead (h : s.rgu.scan ≠ .fill) : s.arbitrate = some .queueHead ↔ s.fmc.fetches = [] ∧ s.queue ≠ [] := by
  refine ⟨fun hg => ?_, fun ⟨hf, hq⟩ => arbitrate_head h hf hq⟩
  rcases arbitrate_cases hg with ⟨f, -, he⟩ | ⟨hf, hq, -⟩
  · cases he
  · exact ⟨hf, hq⟩

/-! ### Serving the fetches -/

/-- A granted fetch is served first of those that wait (R45). -/
theorem serveFetches_grant (h : s.arbitrate = some (.fetch f)) : serveFetches s = serveFetches (grantFetch f s) := by
  have waits : f ∈ s.fmc.fetches := by
    rcases arbitrate_cases h with ⟨g, hg, he⟩ | ⟨-, -, he⟩
    · cases he; exact hg
    · cases he
  have length : s.fmc.fetches.length = (s.fmc.fetches.erase f).length + 1 := by
    rw [List.length_erase_of_mem waits]
    have := List.length_pos_of_mem waits
    omega
  rw [serveFetches, length, serveUpTo, h]
  rfl

/-- Each fetch that waits gets its output the pixel of the present tick, and no other output's samples change. -/
structure Served (s t : State) : Prop where
  fetches : t.fmc.fetches = []
  served : ∀ o, (∃ f ∈ s.fmc.fetches, f.output = o) → tget t.samples o = s.scanPixel o
  kept : ∀ o, (∀ f ∈ s.fmc.fetches, f.output ≠ o) → tget t.samples o = tget s.samples o

theorem Served.after_grant {t : State} (hf : f ∈ s.fmc.fetches) (h : Served (grantFetch f s) t) : Served s t where
  fetches := h.fetches
  served o := by
    rintro ⟨g, hg, ho⟩
    by_cases again : ∃ x ∈ s.fmc.fetches.erase f, x.output = o
    · exact h.served o again
    · have hgf : g = f := by
        by_contra hne
        exact again ⟨g, (List.mem_erase_of_ne hne).2 hg, ho⟩
      subst hgf
      rw [h.kept o fun x hx hxo => again ⟨x, hx, hxo⟩, grantFetch_samples, tget_tset, if_pos ho, ho]
  kept o no := by
    rw [h.kept o fun x hx => no x (List.mem_of_mem_erase hx), grantFetch_samples, tget_tset, if_neg (no f hf)]

theorem serveFetches_served (hscan : s.rgu.scan ≠ .fill) : Served s (serveFetches s) := by
  induction n : s.fmc.fetches.length generalizing s with
  | zero =>
    have none := List.length_eq_zero_iff.1 n
    rw [serveFetches_of_nil none]
    exact ⟨none, fun o h => by simp [none] at h, fun _ _ => rfl⟩
  | succ n ih =>
    obtain ⟨f, hf⟩ : ∃ f, longestWaiting s.fmc.fetches = some f := by
      cases h : longestWaiting s.fmc.fetches with
      | none => rw [longestWaiting_none.1 h] at n; cases n
      | some f => exact ⟨f, rfl⟩
    have waits := longestWaiting_mem hf
    rw [serveFetches_grant ((arbitrate_fetch hscan).2 hf)]
    exact .after_grant waits (ih (s := grantFetch f s) hscan (by rw [grantFetch_fetches, List.length_erase_of_mem waits]; omega))

/-- PIC_WRITE and COMPLETION act as they do once the fetches that wait are served (log 8). -/
theorem picWriteStep_served {first : Nat} {px : List Colour} {rest : List QueueEntry} (hscan : s.rgu.scan ≠ .fill)
    (hq : s.queue = .pic i k line first px :: rest) : picWriteStep s = picWriteStep (serveFetches s) := by
  have eq := serveFetches_eq s
  have none := (serveFetches_served hscan).fetches
  have queue : (serveFetches s).queue = .pic i k line first px :: rest := by rw [eq]; exact hq
  have scan : (serveFetches s).rgu.scan ≠ .fill := by rw [eq]; exact hscan
  have head := arbitrate_head scan none (queue ▸ List.cons_ne_nil _ _)
  simp only [picWriteStep, serveFetches_of_nil none, head, queue]

theorem completionStep_served {rest : List QueueEntry} (hscan : s.rgu.scan ≠ .fill) (hq : s.queue = .close i k :: rest) :
    completionStep s = completionStep (serveFetches s) := by
  have eq := serveFetches_eq s
  have none := (serveFetches_served hscan).fetches
  have queue : (serveFetches s).queue = .close i k :: rest := by rw [eq]; exact hq
  have scan : (serveFetches s).rgu.scan ≠ .fill := by rw [eq]; exact hscan
  have head := arbitrate_head scan none (queue ▸ List.cons_ne_nil _ _)
  simp only [completionStep, serveFetches_of_nil none, head, queue]

/-! ### Fetches raised -/

theorem needsFetch_iff {o : Fin 4} : s.needsFetch o = true ↔
    ∃ x y p, s.scanPosition = some (x, y) ∧ tget s.plans o = some p ∧ p.sampled x y = true := by
  unfold State.needsFetch
  split
  · simp [*]
  · rename_i no
    simp only [Bool.false_eq_true, false_iff]
    rintro ⟨x, y, p, hpos, hp, -⟩
    exact no x y p hpos hp

theorem mem_raisedFetches : f ∈ s.raisedFetches ↔ f.raised = s.rgu.tick ∧ s.needsFetch f.output = true := by
  obtain ⟨o, n⟩ := f
  simp only [State.raisedFetches, List.mem_map, List.mem_filter, List.mem_finRange, true_and, Fetch.mk.injEq]
  constructor
  · rintro ⟨_, h, rfl, rfl⟩; exact ⟨rfl, h⟩
  · rintro ⟨rfl, h⟩; exact ⟨o, h, rfl, rfl⟩

/-- Settles O42: the run, the numbering, the serving of the fetches, the arbitration and the fetches raised, each by its own lemma. -/
theorem picWriteWritesItsRun : Obligations.PicWriteWritesItsRun := by
  refine ⟨?_, ?_, ?_, ?_, ?_⟩
  · intro s i k line first px rest hscan hf hm hq hl
    refine ⟨memWriteRun s.memory i k line first px, ?_, memWriteRun_wf _ _ _ _ _ hm,
      fun n c hn hc => memRead_memWriteRun hm hl hn hc, fun a ha => memRead_memWriteRun_elsewhere px hm a ha⟩
    show Host.Outcome.next (picWriteStep s) = _
    rw [picWriteStep_quiet hscan hf hq, grantHead_quiet hf]
  · intro i i' k k' line line' column column' hl hl' hc hc' h
    exact position_injective hl hl' hc hc' h
  · intro s hscan
    obtain ⟨fetches, served, kept⟩ := serveFetches_served hscan
    exact ⟨serveFetches s, serveFetches_eq s, fetches, served, kept,
      fun _ _ _ _ _ _ hq => congrArg Host.Outcome.next (picWriteStep_served hscan hq),
      fun _ _ _ hq => congrArg Host.Outcome.next (completionStep_served hscan hq)⟩
  · intro s
    exact ⟨arbitrate_fill, fun hscan => ⟨fun f => (arbitrate_fetch hscan).trans longestWaiting_iff, arbitrate_queueHead hscan⟩,
      fun f => serveFetches_grant⟩
  · intro s f
    simp only [mem_raisedFetches, needsFetch_iff, plan_sampled_iff]

end Sys2Proof.Proofs
end

section
/-! PROOFS. The pixels that an output sends. -/

namespace Sys2Proof.Proofs

open Sys2Proof.Machine Sys2Proof.Claims Sys2Proof.Safety

variable {s : State} {m : List (Nat × Colour)} {p : FramePlan} {e : PlanEntry} {x y : Nat}

/-! ### Mixing -/

/-- A weighted mean of two components is a component (R42). -/
theorem weigh_lt {k a b : Nat} (hk : k ≤ 256) (ha : a < 1024) (hb : b < 1024) : weigh k b a < 1024 := by
  have left : k * b ≤ k * 1023 := Nat.mul_le_mul_left k (by omega)
  have right : (256 - k) * a ≤ (256 - k) * 1023 := Nat.mul_le_mul_left _ (by omega)
  rw [weigh]
  omega

theorem toNat_weigh {k : Nat} (hk : k ≤ 256) (a b : BitVec 10) :
    (BitVec.ofNat 10 (weigh k b.toNat a.toNat)).toNat = weigh k b.toNat a.toNat := by
  rw [BitVec.toNat_ofNat, Nat.mod_eq_of_lt (weigh_lt hk a.isLt b.isLt)]

theorem mix_components {k : Nat} (hk : k ≤ 256) (a b : Colour) :
    (mix k b a).y.toNat = weigh k b.y.toNat a.y.toNat ∧ (mix k b a).cb.toNat = weigh k b.cb.toNat a.cb.toNat
    ∧ (mix k b a).cr.toNat = weigh k b.cr.toNat a.cr.toNat :=
  ⟨toNat_weigh hk a.y b.y, toNat_weigh hk a.cb b.cb, toNat_weigh hk a.cr b.cr⟩

theorem weigh_all (b a : Nat) : weigh 256 b a = b := by rw [weigh]; omega

theorem weigh_zero (b a : Nat) : weigh 0 b a = a := by rw [weigh]; omega

/-- 256 of 256 is the upper colour alone. -/
theorem mix_all (b a : Colour) : mix 256 b a = b := by simp only [mix, weigh_all, BitVec.ofNat_toNat, BitVec.setWidth_eq]

/-- 0 of 256 is the lower colour alone. -/
theorem mix_zero (b a : Colour) : mix 0 b a = a := by simp only [mix, weigh_zero, BitVec.ofNat_toNat, BitVec.setWidth_eq]

/-! ### The plan's pixel -/

theorem blendEntry_of_covers (h : Covers p e x y) (c : Colour) :
    blendEntry m p x y c e = mix e.opacity (windowValue m e x y) c := blendEntry_covered (covers_iff_Covers.2 h) c

/-- Entries that do not cover a pixel leave it as it is. -/
theorem foldl_blend_uncovered {l : List PlanEntry} (h : ∀ e ∈ l, ¬ Covers p e x y) (c : Colour) :
    l.foldl (blendEntry m p x y) c = c := by
  induction l generalizing c with
  | nil => rfl
  | cons e l ih =>
    obtain ⟨he, hl⟩ := List.forall_mem_cons.1 h
    rw [List.foldl_cons, blendEntry_uncovered (Bool.eq_false_iff.2 fun hc => he (covers_iff_Covers.1 hc)), ih hl]

theorem planPixel_showing (h : p.mode = .showing) : planPixel m p x y = p.entries.foldl (blendEntry m p x y) p.background := by
  simp only [planPixel, h]

/-- The topmost covering entry is blended over the plan of the entries below it (R42). -/
theorem planPixel_top {below above : List PlanEntry} (h : p.mode = .showing) (he : p.entries = below ++ e :: above)
    (above_out : ∀ a ∈ above, ¬ Covers p a x y) (hc : Covers p e x y) :
    planPixel m p x y = mix e.opacity (windowValue m e x y) (planPixel m { p with entries := below } x y) := by
  rw [planPixel_showing h, planPixel_showing (p := { p with entries := below }) h, he, List.foldl_append, List.foldl_cons,
    foldl_blend_uncovered above_out, blendEntry_of_covers hc]
  rfl

/-! ### A window's value -/

theorem windowValue_border (h : ∀ i j w h, ¬ InnerAt e x y i j w h) : windowValue m e x y = e.borderColour.getD e.fallback :=
  if_neg fun hc => by
    obtain ⟨i, j, w, k, hin⟩ := inner_covers_iff.1 hc
    exact h i j w k hin

theorem windowValue_single {side : Side} (h : ∃ i j w h, InnerAt e x y i j w h) (hd : e.drawing = .single side) :
    windowValue m e x y = sideValue m e x y side := by
  simp only [windowValue, inner_covers_iff.2 h, if_true, hd]

theorem windowValue_mixed {a b : Side} {style : Style} {d f : Nat} (h : ∃ i j w h, InnerAt e x y i j w h)
    (hd : e.drawing = .mixed a b style d f) :
    windowValue m e x y = mixedValue style d f e.fallback (sideValue m e x y a) (sideValue m e x y b) := by
  simp only [windowValue, inner_covers_iff.2 h, if_true, hd]

/-- A window that mixes two sides, by the factor of its style (R39, R40, R41). -/
theorem mixedValue_eq (style : Style) (d f : Nat) (fb vA vB : Colour) :
    (style = .dissolve → mixedValue style d f fb vA vB = mix (256 * f / d) vB vA)
    ∧ (style = .fade → 2 * f ≤ d → mixedValue style d f fb vA vB = mix (512 * f / d) fb vA)
    ∧ (style = .fade → d < 2 * f → mixedValue style d f fb vA vB = mix (512 * f / d - 256) vB fb)
    ∧ (style = .cut → d = 1 → f = 0 → mixedValue style d f fb vA vB = vA) := by
  refine ⟨?_, ?_, ?_, ?_⟩
  · rintro rfl; rfl
  · rintro rfl first
    simp only [mixedValue, fadeFactor, if_pos first]
  · rintro rfl second
    simp only [mixedValue, fadeFactor, if_neg (Nat.not_le.2 second)]
  · rintro rfl rfl rfl
    exact mix_zero vB vA

theorem effectiveCrop_empty {c : Crop} {wf hf : Nat} (h : wf ≤ c.cx0 ∨ hf ≤ c.cy0) : effectiveCrop (some c) wf hf = none := if_pos h

theorem effectiveCrop_of_cropsTo {crop : Option Crop} {wf hf cx cy cw ch : Nat} (h : CropsTo crop wf hf cx cy cw ch) :
    effectiveCrop crop wf hf = some ⟨cx, cy, cw, ch⟩ := by
  cases crop with
  | none =>
    obtain ⟨rfl, rfl, rfl, rfl⟩ := h
    rfl
  | some c =>
    obtain ⟨hx, hy, rfl, rfl, rfl, rfl⟩ := h
    exact if_neg (by omega)

theorem sideValue_slot {st : Fin 8} {k : Fin 3} {wf hf cx cy cw ch i j w h : Nat} (hin : InnerAt e x y i j w h)
    (hc : CropsTo e.crop wf hf cx cy cw ch) : sideValue m e x y (.slot st k wf hf) =
      memRead m (position st k (cy + (2 * j + 1) * ch / (2 * h)) (cx + (2 * i + 1) * cw / (2 * w))) := by
  obtain ⟨hi, hj, hw, hh⟩ := innerAt_offsets hin
  simp only [sideValue, effectiveCrop_of_cropsTo hc, hi, hj, hw, hh, samplePosition]

/-- A sample position lies within its extent (R37). -/
theorem samplePosition_bounds {origin extent i size : Nat} (he : 0 < extent) (hi : i < size) :
    origin ≤ samplePosition origin extent i size ∧ samplePosition origin extent i size < origin + extent := by
  have inside : (2 * i + 1) * extent / (2 * size) < extent :=
    Nat.div_lt_of_lt_mul (Nat.mul_lt_mul_of_pos_right (by omega) he)
  exact ⟨Nat.le_add_right _ _, Nat.add_lt_add_left inside _⟩

/-- A sample lies in the crop and in the frame (R36, R37). -/
theorem sample_bounds {c : Crop} {wf hf : Nat} {i size : Nat} {e : Crop} (hcw : 0 < c.cw) (hch : 0 < c.ch) (hi : i < size)
    (he : effectiveCrop (some c) wf hf = some e) :
    c.cx0 ≤ samplePosition e.cx0 e.cw i size ∧ samplePosition e.cx0 e.cw i size < wf
      ∧ samplePosition e.cx0 e.cw i size < c.cx0 + c.cw
      ∧ c.cy0 ≤ samplePosition e.cy0 e.ch i size ∧ samplePosition e.cy0 e.ch i size < hf
      ∧ samplePosition e.cy0 e.ch i size < c.cy0 + c.ch := by
  simp only [effectiveCrop] at he
  split at he <;> cases he
  rename_i inside
  have column := samplePosition_bounds (origin := c.cx0) (extent := min (c.cx0 + c.cw) wf - c.cx0) (by omega) hi
  have line := samplePosition_bounds (origin := c.cy0) (extent := min (c.cy0 + c.ch) hf - c.cy0) (by omega) hi
  dsimp only
  omega

/-! ### The tick of a pixel -/

/-- The tick of a pixel of the active lines lies within them, and its line and column can be read off it (R114). -/
theorem pixelAt_eq_some {r : Raster} {L tick : Nat} (hw : r.activeWidth ≤ r.totalWidth) (hL : r.activeHeight * r.totalWidth ≤ L) :
    r.pixelAt L tick = some (x, y) ↔ x < r.activeWidth ∧ y < r.activeHeight ∧ tick = sentAt r L x y := by
  unfold Raster.pixelAt sentAt
  dsimp only
  have lines := Nat.mul_comm r.activeHeight r.totalWidth
  constructor
  · intro h
    split at h <;> cases h
    rename_i inside
    obtain ⟨first, last, column⟩ := inside
    have split := Nat.div_add_mod (tick - (L - r.activeHeight * r.totalWidth)) r.totalWidth
    rw [Nat.mul_comm] at split
    exact ⟨column, Nat.div_lt_of_lt_mul (by omega), by omega⟩
  · rintro ⟨hx, hy, rfl⟩
    have line : (y + 1) * r.totalWidth ≤ r.activeHeight * r.totalWidth := Nat.mul_le_mul_right _ hy
    rw [Nat.add_mul, Nat.one_mul] at line
    have offset : L - r.activeHeight * r.totalWidth + y * r.totalWidth + x - (L - r.activeHeight * r.totalWidth)
        = x + r.totalWidth * y := by rw [Nat.mul_comm y]; omega
    have column : (x + r.totalWidth * y) % r.totalWidth = x := by
      rw [Nat.add_mul_mod_self_left, Nat.mod_eq_of_lt (by omega)]
    have row : (x + r.totalWidth * y) / r.totalWidth = y := by
      rw [Nat.add_mul_div_left _ _ (by omega), Nat.div_eq_of_lt (by omega), Nat.zero_add]
    rw [offset, column, row, if_pos (by omega)]

theorem scanPosition_between (h : s.rgu.scan = .between) : s.scanPosition = none := by simp only [State.scanPosition, h]

theorem scanPosition_of_not_between (h : s.rgu.scan ≠ .between) : s.scanPosition = s.rgu.raster.pixelAt s.rgu.length s.rgu.tick := by
  unfold State.scanPosition
  split
  · exact absurd ‹_› h
  · rfl

theorem outputPixel_unfetched {o : Fin 4} (h : tget s.samples o = none) : s.outputPixel o = s.scanPixel o := by
  simp only [State.outputPixel, h]

theorem scanPixel_none (h : s.scanPosition = none) (o : Fin 4) : s.scanPixel o = none := by simp only [State.scanPixel, h]

theorem scanPixel_some (h : s.scanPosition = some (x, y)) (o : Fin 4) : s.scanPixel o = s.activePixel o x y := by
  simp only [State.scanPixel, h]

/-- Outside a pixel's tick there is blanking, and at it the pixel (R114). -/
theorem scanPixel_ticks (h : s.rgu.scan ≠ .between) (hr : RasterLegal s.rgu.raster)
    (hL : s.rgu.raster.activeHeight * s.rgu.raster.totalWidth ≤ s.rgu.length) (o : Fin 4) :
    (∀ x y, x < s.rgu.raster.activeWidth → y < s.rgu.raster.activeHeight →
      s.rgu.tick = sentAt s.rgu.raster s.rgu.length x y → s.scanPixel o = s.activePixel o x y)
    ∧ ((∀ x y, x < s.rgu.raster.activeWidth → y < s.rgu.raster.activeHeight →
      s.rgu.tick ≠ sentAt s.rgu.raster s.rgu.length x y) → s.scanPixel o = none) := by
  have read := scanPosition_of_not_between h
  refine ⟨fun x y hx hy ht => scanPixel_some ?_ o, fun no => scanPixel_none ?_ o⟩
  · rw [read]
    exact (pixelAt_eq_some (by omega) hL).2 ⟨hx, hy, ht⟩
  · refine Option.eq_none_iff_forall_ne_some.2 fun ⟨x, y⟩ hp => ?_
    rw [read] at hp
    obtain ⟨hx, hy, ht⟩ := (pixelAt_eq_some (by omega) hL).1 hp
    exact no x y hx hy ht

theorem activePixel_of_plan {o : Fin 4} (h : tget s.plans o = some p) :
    s.activePixel o x y = if x < p.activeWidth ∧ y < p.activeHeight then some (planPixel s.memory p x y) else none := by
  simp only [State.activePixel, h, active_iff_lt]

/-- Settles O52: each clause by the lemma on its function, from the output's pixel down to a sample's address. -/
theorem pixelsAreComposed : Obligations.PixelsAreComposed := by
  refine ⟨?_, ?_, ?_, ?_, ?_, ?_, ?_⟩
  · intro s o x y
    refine ⟨fun h => by simp only [State.activePixel, h]; rfl, fun p hp => ?_⟩
    rw [activePixel_of_plan hp]
    exact ⟨fun out => if_neg (by omega), fun hx hy => if_pos ⟨hx, hy⟩⟩
  · intro m p x y
    refine ⟨fun dark => by simp only [planPixel, dark]; rfl, fun showing => ⟨fun none => ?_, fun below e above he out => ?_⟩⟩
    · rw [planPixel_showing showing, foldl_blend_uncovered none]
    · exact ⟨planPixel_top showing he out, fun hc full => by rw [planPixel_top showing he out hc, full, mix_all]⟩
  · intro k a b hk
    exact mix_components hk a b
  · intro m e x y
    refine ⟨fun out c hc => by rw [windowValue_border out, hc]; rfl, fun i j w h hin => ?_⟩
    have inner : ∃ i j w h, InnerAt e x y i j w h := ⟨i, j, w, h, hin⟩
    refine ⟨fun side hd => windowValue_single inner hd, ?_, fun c => rfl, fun st k wf hf => ⟨fun c hc empty => ?_, ?_⟩⟩
    · rintro a b style d f vA vB hd rfl rfl
      rw [windowValue_mixed inner hd]
      exact mixedValue_eq style d f e.fallback _ _
    · simp only [sideValue, hc, effectiveCrop_empty empty]
    · exact fun cx cy cw ch hc => sideValue_slot hin hc
  · intro c wf hf i size e _ _ hcw hch hi he
    exact sample_bounds hcw hch hi he
  · intro r L hr hL x y tick hx hy
    rw [pixelAt_eq_some (by omega) hL]
    exact ⟨fun h => h.2.2, fun h => ⟨hx, hy, h⟩⟩
  · intro s o
    refine ⟨fun c hc => by simp only [State.outputPixel, hc], fun none => ?_⟩
    rw [outputPixel_unfetched none]
    exact ⟨fun between => scanPixel_none (scanPosition_between between) o, fun h hr hL => scanPixel_ticks h hr hL o⟩

end Sys2Proof.Proofs
end

section
/-! PROOFS. What leaves the stores and the write queue as they are, but for the pins: the operations of the other blocks, and the commands
that STM takes no part in. -/

namespace Sys2Proof.Proofs

open Sys2Proof.Machine Sys2Proof.Claims Sys2Proof.Safety

variable {s t u : State}

/-- All of a store but how often its slots are pinned. -/
def unpinned (st : Store) : Store := { st with slots := tmap (fun _ r => { r with pins := 0 }) st.slots }

theorem unpinned_slot (st : Store) (k : Fin 3) : (unpinned st).slot k = { st.slot k with pins := 0 } := by
  rw [Store.slot, unpinned, tget_tmap, Store.slot]

theorem unpinned_setPins (st : Store) (k : Fin 3) (n : Nat) : unpinned (st.setPins k n) = unpinned st := by
  refine congrArg (fun x => { st with slots := x }) (table_ext fun j => ?_)
  rw [tget_tmap, tget_tmap]
  show (fun r : SlotRecord => { r with pins := 0 }) ((st.setPins k n).slot j) = { st.slot j with pins := 0 }
  rw [Store.setPins_slot]
  split
  · subst_vars; rfl
  · rfl

/-- From `s` to `t` the write queue stays, and every store but for its pins. -/
structure StoresAlike (s t : State) : Prop where
  queue : t.queue = s.queue
  stores : ∀ i, unpinned (t.store i) = unpinned (s.store i)

theorem StoresAlike.same (hs : t.stores = s.stores) (hq : t.queue = s.queue) : StoresAlike s t :=
  ⟨hq, fun i => by rw [State.store, hs, State.store]⟩

theorem StoresAlike.refl (s : State) : StoresAlike s s := .same rfl rfl

theorem StoresAlike.trans (h : StoresAlike s t) (k : StoresAlike t u) : StoresAlike s u :=
  ⟨k.queue.trans h.queue, fun i => (k.stores i).trans (h.stores i)⟩

/-- The same, the last step first. -/
theorem StoresAlike.after (k : StoresAlike t u) (h : StoresAlike s t) : StoresAlike s u := h.trans k

theorem StoresAlike.ite {c : Prop} [Decidable c] (h : StoresAlike s t) (k : StoresAlike s u) :
    StoresAlike s (if c then t else u) := by
  split
  · exact h
  · exact k

theorem StoresAlike.foldl {α : Type} {f : State → α → State} (h : ∀ s x, StoresAlike s (f s x)) (xs : List α) (s : State) :
    StoresAlike s (xs.foldl f s) := by
  induction xs generalizing s with
  | nil => exact .refl s
  | cons x xs ih => exact .after (ih _) (h s x)

theorem StoresAlike.slot (h : StoresAlike s t) (i : Fin 8) (k : Fin 3) :
    ((t.store i).slot k).frame = ((s.store i).slot k).frame ∧ ((t.store i).slot k).selected = ((s.store i).slot k).selected := by
  have same := congrArg (fun st => st.slot k) (h.stores i)
  simp only [unpinned_slot, SlotRecord.mk.injEq] at same
  exact ⟨same.1, same.2.1⟩

/-! ### Conditions, pins and freezes -/

theorem raise_alike (c : Condition) (s : State) : StoresAlike s (s.raise c) := .same rfl rfl

theorem send_alike (x : Sent) (s : State) : StoresAlike s (s.send x) := .same rfl rfl

theorem setCue_alike (c : Fin 16) (x : Option Cue) (s : State) : StoresAlike s (s.setCue c x) := .same rfl rfl

theorem setOutput_alike (o : Fin 4) (x : Output) (s : State) : StoresAlike s (s.setOutput o x) := .same rfl rfl

theorem raiseIf_alike (b : Bool) (c : Condition) (s : State) : StoresAlike s (s.raiseIf b c) := .ite (.same rfl rfl) (.refl s)

theorem setStore_alike {i : Fin 8} {x : Store} (h : unpinned x = unpinned (s.store i)) : StoresAlike s (s.setStore i x) := by
  refine ⟨rfl, fun j => ?_⟩
  rw [State.setStore_store]
  split
  · subst_vars; exact h
  · rfl

theorem pinSlot_alike (i : Fin 8) (k : Fin 3) (s : State) : StoresAlike s (pinSlot i k s) := setStore_alike (unpinned_setPins _ _ _)

theorem unpinSlot_alike (i : Fin 8) (k : Fin 3) (s : State) : StoresAlike s (unpinSlot i k s) :=
  setStore_alike (unpinned_setPins _ _ _)

theorem takeFreeze_alike (o : Fin 4) (w i : Fin 8) (k : Fin 3) (shared : Bool) (s : State) :
    StoresAlike s (takeFreeze o w i k shared s) := .trans (pinSlot_alike i k s) (.same rfl rfl)

theorem releaseFreeze_alike (o : Fin 4) (w : Fin 8) (s : State) : StoresAlike s (releaseFreeze o w s) := by
  unfold releaseFreeze
  split
  · exact .trans (unpinSlot_alike _ _ s) (.same rfl rfl)
  · exact .same rfl rfl
  · exact .refl s

theorem leaveLive_alike (src : Fin 16) (s : State) : StoresAlike s (leaveLive src s) :=
  .ite (.after (raiseIf_alike _ _ _) (.same rfl rfl)) (.refl s)

/-! ### The output frame end, but for what STM takes -/

theorem swapWindow_alike (o : Fin 4) (s : State) (w : Fin 8) : StoresAlike s (swapWindow o s w) := by
  have decided (new : Option WindowRecord) (s : State) : StoresAlike s (swapFreeze new o w s) := by
    rw [swapFreeze_eq]
    exact .ite (.refl s) (releaseFreeze_alike o w s)
  exact .after (decided _ _) (.same rfl rfl)

theorem swapOutput_alike (o : Fin 4) (s : State) : StoresAlike s (swapOutput o s) :=
  .ite (.after (setOutput_alike o _ _) (.foldl (swapWindow_alike o) _ s)) (.refl s)

theorem swapPart_alike (s : State) : StoresAlike s (swapPart s) := .foldl (fun s o => swapOutput_alike o s) _ s

theorem askStarts_alike (r : Fin 4) (b : Shown) (style : Style) (duration : Nat) (s : State) :
    StoresAlike s (askStarts r b style duration s) := by
  refine .foldl (fun s ow => ?_) _ s
  unfold askStart
  split
  · exact .refl s
  · exact .ite (.refl s) (.ite (.same rfl rfl) (.same rfl rfl))

theorem advanceList_alike (r : Fin 4) (s : State) : StoresAlike s (advanceList r s) := by
  simp only [advanceList]
  split
  · exact .same rfl rfl
  · exact .trans (askStarts_alike _ _ _ _ s) (.same rfl rfl)

theorem applyStaged_alike (r : Fin 4) (st : StagedList) (s : State) : StoresAlike s (applyStaged r st s) := by
  unfold applyStaged
  split
  · exact .same rfl rfl
  · exact .trans (askStarts_alike _ _ _ _ s) (.same rfl rfl)

theorem listFrameEnd_alike (r : Fin 4) (s : State) : StoresAlike s (listFrameEnd r s) := by
  simp only [listFrameEnd]
  split
  · exact applyStaged_alike r _ s
  · exact .ite (.refl s) (.ite (advanceList_alike r s) (.same rfl rfl))

theorem applyRaster_alike (s : State) : StoresAlike s (applyRaster s) := by
  unfold applyRaster
  split
  · exact .refl s
  · exact .ite (.same rfl rfl) (.after (raiseIf_alike _ _ _) (.same rfl rfl))

theorem genlockWork_alike (s : State) : StoresAlike s (genlockWork s) := by
  unfold genlockWork
  simp only
  split
  · exact .same rfl rfl
  · exact .same rfl rfl
  · exact .after (raiseIf_alike _ _ _) (.same rfl rfl)

/-- STM has a part in the output frame end itself, and in the freezes that are taken there. -/
theorem framePart_alike {x : FrameEndPart} (hx : x ≠ .silence ∧ x ≠ .selection ∧ x ≠ .freezes) (s : State) :
    StoresAlike s (framePart x s) := by
  obtain ⟨h1, h2, h3⟩ := hx
  cases x with
  | silence => exact absurd rfl h1
  | selection => exact absurd rfl h2
  | freezes => exact absurd rfl h3
  | swap => exact swapPart_alike s
  | transitions => exact .same rfl rfl
  | lists => exact .foldl (fun s r => .ite (.refl s) (listFrameEnd_alike r s)) _ s
  | survey => exact .ite (.refl s) (.same rfl rfl)
  | count => exact .same rfl rfl
  | raster => exact .ite (.refl s) (applyRaster_alike s)
  | genlock => exact .ite (.refl s) (genlockWork_alike s)

/-! ### The layout unit, and the cues that act on it -/

theorem forOutputs_alike {mask : BitVec 4} {f : Fin 4 → State → State} (h : ∀ o s, StoresAlike s (f o s)) (s : State) :
    StoresAlike s (forOutputs mask f s) := .foldl (fun s o => h o s) _ s

theorem recallInto_alike (n : Fin 8) (o : Fin 4) (s : State) : StoresAlike s (recallInto n o s) := by
  unfold recallInto
  split
  · exact .refl s
  · exact .after (raiseIf_alike _ _ _) (.same rfl rfl)

theorem setMode_alike (m : OutputMode) (o : Fin 4) (s : State) : StoresAlike s (setMode m o s) := .same rfl rfl

theorem armOutput_alike (o : Fin 4) (s : State) : StoresAlike s (armOutput o s) := .same rfl rfl

theorem takeAction_alike (a : CueAction) (s : State) : StoresAlike s (takeAction a s) := by
  unfold takeAction
  split
  · exact forOutputs_alike (recallInto_alike _) s
  · exact forOutputs_alike (setMode_alike _) s

theorem evaluateCue_alike (c : Clock) (s : State) (i : Fin 16) : StoresAlike s (evaluateCue c s i) := by
  unfold evaluateCue
  split
  · exact .refl s
  · exact .after (setCue_alike _ _ _) (.ite (.after (raise_alike _ _) (takeAction_alike _ s)) (.refl s))

theorem takeTimebase_alike (weekday hour minute second frame : Byte) (s : State) :
    StoresAlike s (takeTimebase weekday hour minute second frame s) := by
  unfold takeTimebase
  split
  · exact .refl s
  · exact .after (t := { s with clock := some _ }) (.foldl (fun s i => evaluateCue_alike _ s i) _ _) (.same rfl rfl)

theorem winsetAnswer_alike (output : Byte) (raw : RawWindow) (s : State) : StoresAlike s (winsetAnswer output raw s).state := by
  unfold winsetAnswer placeWindow
  simp only
  repeat' split
  all_goals exact .same rfl rfl

theorem windropAnswer_alike (output window : Byte) (s : State) : StoresAlike s (windropAnswer output window s).state := by
  unfold windropAnswer
  repeat' split
  all_goals exact .same rfl rfl

theorem winmoveAnswer_alike (output window target : Byte) (s : State) :
    StoresAlike s (winmoveAnswer output window target s).state := by
  unfold winmoveAnswer
  repeat' split
  all_goals exact .same rfl rfl

theorem winreadAnswer_alike (output window bank : Byte) (s : State) : StoresAlike s (winreadAnswer output window bank s).state := by
  unfold winreadAnswer
  simp only
  repeat' split
  all_goals exact .same rfl rfl

theorem discardAnswer_alike (output : Byte) (s : State) : StoresAlike s (discardAnswer output s).state := by
  unfold discardAnswer
  repeat' split
  all_goals exact .same rfl rfl

theorem presaveAnswer_alike (output preset : Byte) (s : State) : StoresAlike s (presaveAnswer output preset s).state := by
  unfold presaveAnswer
  split
  all_goals exact .same rfl rfl

theorem commitAnswer_alike (mask : Byte) (s : State) : StoresAlike s (commitAnswer mask s).state := by
  unfold commitAnswer
  split
  · exact .refl s
  · exact forOutputs_alike armOutput_alike s

theorem outmodeAnswer_alike (mask mode : Byte) (s : State) : StoresAlike s (outmodeAnswer mask mode s).state := by
  unfold outmodeAnswer
  split
  · exact forOutputs_alike (setMode_alike _) s
  · exact .refl s

theorem recallAnswer_alike (mask preset : Byte) (s : State) : StoresAlike s (recallAnswer mask preset s).state := by
  unfold recallAnswer
  split
  · exact (by split; exacts [.refl s, by split; exacts [.refl s, forOutputs_alike (recallInto_alike _) s]])
  · exact .refl s

theorem recallAll_alike (mask preset : Byte) (s : State) : StoresAlike s (recallAll mask preset s) := by
  unfold recallAll
  split
  · exact forOutputs_alike (recallInto_alike _) s
  · exact .refl s

/-! ### The other requests -/

theorem statusAnswer_alike (page : Byte) (s : State) : StoresAlike s (statusAnswer page s).state := by
  unfold statusAnswer
  split
  all_goals exact .same rfl rfl

theorem rasterAnswer_alike (aw ah tw th : Half) (bg : Word) (s : State) : StoresAlike s (rasterAnswer aw ah tw th bg s).state := by
  unfold rasterAnswer
  split
  all_goals exact .same rfl rfl

theorem silenceAnswer_alike (hold : Byte) (loss : Half) (s : State) : StoresAlike s (silenceAnswer hold loss s).state := by
  unfold silenceAnswer
  repeat' split
  all_goals exact .same rfl rfl

theorem takeAnswer_alike (output window kind : Byte) (value : Word) (style duration : Byte) (s : State) :
    StoresAlike s (takeAnswer output window kind value style duration s).state := by
  unfold takeAnswer
  split
  · split
    · exact .refl s
    · split
      · exact .refl s
      · simp only [carryTake, rearm_eq]
        exact .same rfl rfl
  · exact .refl s

theorem freezeChecked_alike {kindOk : Bool} {output window : Byte} {act : Fin 4 → Fin 8 → Fin 8 → Answer}
    (h : ∀ o w i, StoresAlike s (act o w i).state) : StoresAlike s (freezeChecked kindOk output window s act).state := by
  unfold freezeChecked
  split
  · split
    · exact .refl s
    · split
      · exact .refl s
      · split
        · exact .refl s
        · exact h _ _ _
    · exact .refl s
  · exact .refl s

theorem freezeNowAnswer_alike (output window kind : Byte) (s : State) : StoresAlike s (freezeNowAnswer output window kind s).state := by
  refine freezeChecked_alike fun o w i => ?_
  unfold freezeNowOn
  split
  · exact takeFreeze_alike _ _ _ _ _ s
  · exact takeFreeze_alike _ _ _ _ _ s
  · exact .refl s

theorem freezeAtAnswer_alike (output window tag : Byte) (s : State) : StoresAlike s (freezeAtAnswer output window tag s).state :=
  freezeChecked_alike fun _ _ _ => .same rfl rfl

theorem thawAnswer_alike (output window : Byte) (s : State) : StoresAlike s (thawAnswer output window s).state := by
  unfold thawAnswer
  split
  · exact .trans (releaseFreeze_alike _ _ s) (.same rfl rfl)
  · exact .refl s

theorem rotsetAnswer_alike (list count : Byte) (entries : List Byte) (dwell : Half) (style duration : Byte) (s : State) :
    StoresAlike s (rotsetAnswer list count entries dwell style duration s).state := by
  unfold rotsetAnswer
  split
  all_goals exact .same rfl rfl

theorem cuesetAnswer_alike (entry : Byte) (raw : RawCue) (s : State) : StoresAlike s (cuesetAnswer entry raw s).state := by
  unfold cuesetAnswer
  split
  all_goals exact .same rfl rfl

theorem cuedropAnswer_alike (entry : Byte) (s : State) : StoresAlike s (cuedropAnswer entry s).state := by
  unfold cuedropAnswer
  split
  all_goals exact .same rfl rfl

theorem genlockAnswer_alike (source : Byte) (s : State) : StoresAlike s (genlockAnswer source s).state := by
  unfold genlockAnswer
  split
  · exact .refl s
  · exact .after (raiseIf_alike _ _ _) (.same rfl rfl)
  · split
    · exact .after (raiseIf_alike _ _ _) (.same rfl rfl)
    · exact .refl s

theorem surveyAnswer_alike (frames : Byte) (s : State) : StoresAlike s (surveyAnswer frames s).state := by
  unfold surveyAnswer
  repeat' split
  all_goals exact .same rfl rfl

theorem surveyreadAnswer_alike (source : Byte) (s : State) : StoresAlike s (surveyreadAnswer source s).state := by
  unfold surveyreadAnswer
  repeat' split
  all_goals exact .same rfl rfl

/-! ### The trunk -/

theorem goodCell_alike (s : State) : StoresAlike s s.goodCell := .same rfl rfl

theorem noCell_alike (s : State) : StoresAlike s s.noCell := .ite (.refl s) (.same rfl rfl)

theorem failedHeader_alike (s : State) : StoresAlike s (failedHeader s) := .ite (.same rfl rfl) (.same rfl rfl)

theorem goodInHunt_alike (s : State) : StoresAlike s (goodInHunt s) := .ite (.same rfl rfl) (.same rfl rfl)

theorem loseSignal_alike (s : State) : StoresAlike s (loseSignal s) := .after (raiseIf_alike _ _ _) (.same rfl rfl)

theorem endBreak_alike (s : State) : StoresAlike s (endBreak s) := .after (raiseIf_alike _ _ _) (.same rfl rfl)

theorem chainBreakStep_alike (s : State) : StoresAlike s (chainBreakStep s) := by
  have begun : StoresAlike s (if s.trx.brk.isSome = true then s else beginBreak s) := .ite (.refl s) (.same rfl rfl)
  unfold chainBreakStep
  simp only
  split
  · exact .ite begun (.trans begun (.same rfl rfl))
  · exact begun

theorem takeEnum_alike (next : Byte) (s : State) : StoresAlike s (takeEnum next s) := .ite (.same rfl rfl) (send_alike _ s)

theorem onCell_alike {act : State → State} (h : ∀ s, StoresAlike s (act s)) (e : onCell act s = .next t) : StoresAlike s t := by
  cases e
  exact .ite (.after (h _) (goodCell_alike s)) (noCell_alike s)

theorem onForwarded_alike {act : State → State} (h : ∀ s, StoresAlike s (act s)) (e : onForwarded act s = .next t) :
    StoresAlike s t := onCell_alike (fun s => .after (send_alike _ _) (h s)) e

theorem onRequest_alike {q : ReqHead} {code : Byte} {own : State → Answer} {all : State → State}
    (ho : ∀ s, StoresAlike s (own s).state) (ha : ∀ s, StoresAlike s (all s)) (e : onRequest q code own all s = .next t) :
    StoresAlike s t :=
  onCell_alike (fun s => .ite (.after (send_alike _ _) (ha s)) (.ite (.after (send_alike _ _) (ho s)) (send_alike _ s))) e

theorem onAddressed_alike {q : ReqHead} {code : Byte} {own : State → Answer} (ho : ∀ s, StoresAlike s (own s).state)
    (e : onAddressed q code own s = .next t) : StoresAlike s t := onRequest_alike ho (fun s => .refl s) e

theorem onEither_alike {q : ReqHead} {code : Byte} {own : State → Answer} (ho : ∀ s, StoresAlike s (own s).state)
    (e : onEither q code own s = .next t) : StoresAlike s t := onRequest_alike ho ho e

theorem genlockMove_alike (g g' : GenlockState) (s : State) : StoresAlike s (genlockMove g g' s) :=
  .ite (.trans (genlockWork_alike s) (.same rfl rfl)) (.refl s)

theorem idleTick_alike (s : State) : StoresAlike s (idleTick s) := by
  unfold idleTick
  split
  · exact .ite (.same rfl rfl) (.refl s)
  · exact .same rfl rfl
  · exact .refl s

/-! ### Every command -/

/-- STM takes a part in the command, or FMC grants the head of the write queue at it. -/
def storeCommand : Instr → Bool
  | .subscribe _ _ _ => true
  | .release _ _ => true
  | .restart _ => true
  | .frameOpen _ _ _ _ _ _ => true
  | .pic _ _ _ _ _ _ _ => true
  | .frameClose _ _ _ => true
  | .powerOn => true
  | .outputFrameEnd _ => true
  | .picWrite => true
  | .completion => true
  | .sourceStale _ => true
  | .sourceLost _ => true
  | _ => false

/-- A command that STM takes no part in leaves the stores and the queue, but for the pins. -/
theorem exec_alike {c : Instr} (hc : storeCommand c = false) (e : exec c s = .next t) : StoresAlike s t := by
  cases c with
  | ident q => exact onAddressed_alike (own := fun s => ⟨s, .done, identResult s, none⟩) (fun s => .refl s) e
  | status q page => exact onAddressed_alike (statusAnswer_alike page) e
  | clear q mask => exact onEither_alike (own := clearAnswer mask) (fun _ => .same rfl rfl) e
  | raster q aw ah tw th bg => exact onEither_alike (rasterAnswer_alike aw ah tw th bg) e
  | outmode q mask mode => exact onEither_alike (outmodeAnswer_alike mask mode) e
  | silence q hold loss => exact onEither_alike (silenceAnswer_alike hold loss) e
  | winset q output raw => exact onAddressed_alike (winsetAnswer_alike output raw) e
  | windrop q output window => exact onAddressed_alike (windropAnswer_alike output window) e
  | winmove q output window target => exact onAddressed_alike (winmoveAnswer_alike output window target) e
  | winread q output window bank => exact onAddressed_alike (winreadAnswer_alike output window bank) e
  | discard q output => exact onAddressed_alike (discardAnswer_alike output) e
  | commit q mask => exact onEither_alike (commitAnswer_alike mask) e
  | presave q output preset => exact onAddressed_alike (presaveAnswer_alike output preset) e
  | take q output window kind value style duration =>
    exact onAddressed_alike (takeAnswer_alike output window kind value style duration) e
  | freezeNow q output window kind => exact onAddressed_alike (freezeNowAnswer_alike output window kind) e
  | freezeAt q output window tag => exact onAddressed_alike (freezeAtAnswer_alike output window tag) e
  | thaw q output window => exact onAddressed_alike (thawAnswer_alike output window) e
  | rotset q list count entries dwell style duration =>
    exact onEither_alike (rotsetAnswer_alike list count entries dwell style duration) e
  | cueset q entry raw => exact onEither_alike (cuesetAnswer_alike entry raw) e
  | cuedrop q entry => exact onEither_alike (cuedropAnswer_alike entry) e
  | genlock q source => exact onEither_alike (genlockAnswer_alike source) e
  | survey q frames => exact onAddressed_alike (surveyAnswer_alike frames) e
  | surveyread q source => exact onAddressed_alike (surveyreadAnswer_alike source) e
  | unknownRequest q code => exact onAddressed_alike (own := fun s => refuse s .unknown) (fun s => .refl s) e
  | timebase weekday hour minute second frame => exact onForwarded_alike (takeTimebase_alike weekday hour minute second frame) e
  | enumCell next => exact onCell_alike (takeEnum_alike next) e
  | forwardCell kind => exact onForwarded_alike (fun s => .refl s) e
  | headerError => cases e; exact .ite (failedHeader_alike s) (noCell_alike s)
  | huntHeaderCheck header check =>
    cases e; exact .ite (.after (send_alike _ _) (.ite (goodInHunt_alike s) (.same rfl rfl))) (.refl s)
  | syncReached => cases e; exact .ite (.trans (goodInHunt_alike s) (.same rfl rfl)) (.refl s)
  | linkHunt => cases e; exact .ite (failedHeader_alike s) (.refl s)
  | lossOfSignal => cases e; exact .ite (.refl s) (loseSignal_alike s)
  | signalReceived => cases e; exact .ite (.same rfl rfl) (.refl s)
  | breakStart => cases e; exact .ite (.refl s) (.same rfl rfl)
  | breakEnd => cases e; exact .ite (endBreak_alike s) (.refl s)
  | chainBreak => cases e; exact chainBreakStep_alike s
  | powerOnFillEnd => cases e; exact .ite (.same rfl rfl) (.refl s)
  | outputFrameStart => cases e; exact .ite (.same rfl rfl) (.refl s)
  | listAdvance r => cases e; exact .ite (.trans (advanceList_alike r s) (.same rfl rfl)) (.refl s)
  | transitionEnd o w => cases e; exact .ite (.same rfl rfl) (.refl s)
  | surveyDone => cases e; exact .ite (.same rfl rfl) (.refl s)
  | genlockTrack => cases e; exact genlockMove_alike _ _ s
  | genlockLocked => cases e; exact genlockMove_alike _ _ s
  | genlockUnlocked => cases e; exact genlockMove_alike _ _ s
  | subscribe | release | restart | frameOpen | pic | frameClose | powerOn | outputFrameEnd | picWrite | completion | sourceStale
  | sourceLost => cases hc
  -- RECALL is left, whose name Mathlib has made a keyword.
  | _ => exact onRequest_alike (recallAnswer_alike _ _) (recallAll_alike _ _) e

end Sys2Proof.Proofs
end

section
/-! PROOFS. Picture traffic: what a cell of a bound source makes of its store (R54 to R58), in the words of the statements. -/

namespace Sys2Proof.Proofs

open Sys2Proof.Machine Sys2Proof.Claims Sys2Proof.Safety

variable {s : State} {st : Store} {i : Fin 8} {k : Fin 3} {f : FrameInfo} {tag : Byte}

/-! ### Writing a store twice -/

theorem setStore_setStore (i : Fin 8) (x y : Store) (s : State) : (s.setStore i x).setStore i y = s.setStore i y := by
  simp only [State.setStore, tset_tset]

theorem store_setStore (i : Fin 8) (x : Store) (s : State) : (s.setStore i x).store i = x := by
  rw [State.setStore_store, if_pos rfl]

/-! ### The FILLING slot -/

theorem fillingSlot_none (h : st.fillingSlot = none) (k : Fin 3) : (st.slot k).filling = false := by
  simpa using List.find?_eq_none.1 h k (List.mem_finRange k)

theorem fillingSlot_of_fillingAt (h : FillingAt st k f) : st.fillingSlot = some k := by
  obtain ⟨hf, hp, only⟩ := h
  have filling : (st.slot k).filling = true := filling_iff.2 ⟨f, hf, hp⟩
  cases hs : st.fillingSlot with
  | none => rw [fillingSlot_none hs k] at filling; cases filling
  | some j =>
    obtain ⟨g, hg, hgp⟩ := filling_iff.1 (fillingSlot_filling hs)
    rw [only j g hg hgp]

/-- A cell's tag matches the frame of a FILLING slot (R57, R58). -/
theorem matching_eq_some (h : st.matching tag = some (k, f)) : (st.slot k).frame = some f ∧ f.phase = .filling ∧ f.tag = tag := by
  have filling := matching_filling h
  unfold Store.matching at h
  split at h
  · cases h
  · split at h
    · rename_i hframe
      split at h <;> cases h
      obtain ⟨g, hg, hp⟩ := filling_iff.1 filling
      rw [hframe] at hg
      cases hg
      exact ⟨hframe, hp, ‹_›⟩
    · cases h

theorem matching_of_fillingAt (h : FillingAt st k f) (ht : f.tag = tag) : st.matching tag = some (k, f) := by
  simp only [Store.matching, fillingSlot_of_fillingAt h, h.1, if_pos ht]

theorem matching_none (h : NoneFilling st tag) : st.matching tag = none := by
  cases hm : st.matching tag with
  | none => rfl
  | some kf =>
    obtain ⟨hf, hp, ht⟩ := matching_eq_some hm
    exact absurd ht (h kf.1 kf.2 hf hp).2

/-! ### Damage, and what the write queue takes -/

theorem damageSlot_eq (hf : (st.slot k).frame = some f) : st.damageSlot k = damagedAt st k f := by
  simp only [Store.damageSlot, SlotRecord.damage, hf, damagedAt, bumped_eq]
  rfl

theorem damageFrame_eq (hf : ((s.store i).slot k).frame = some f) :
    damageFrame i k s = raised 4 (s.setStore i (damagedAt (s.store i) k f)) := by
  rw [damageFrame, damageSlot_eq hf]
  rfl

theorem overflow_eq (hf : ((s.store i).slot k).frame = some f) :
    overflow i k s = raised 3 (raised 4 (s.setStore i (damagedAt (s.store i) k f))) := by
  rw [overflow, damageFrame_eq hf]
  rfl

theorem acceptPic_eq (line first : Nat) (px : List Colour) (s : State) :
    acceptPic i k f line first px s = { s.setStore i (withFrame (s.store i) k { f with next := f.next + 1 }) with
      queue := s.queue ++ [.pic i k line first px] } := rfl

theorem acceptClose_eq (s : State) :
    acceptClose i k f s = { s.setStore i (withFrame (s.store i) k { f with phase := .closing }) with
      queue := s.queue ++ [.close i k] } := rfl

theorem strayCell_eq (st : Store) : st.strayCell = { st with stray := bumped st.stray } := by
  rw [Store.strayCell, bumped_eq]

theorem queueFull_iff : queueFull s = true ↔ 48 ≤ s.queue.length := decide_eq_true_iff

theorem picPixels_length (count : Nat) (px : List Word) : (picPixels count px).length = count := by
  rw [picPixels, List.length_map, List.length_range]

end Sys2Proof.Proofs
end

section
/-! PROOFS. A store stays legal under each change of one of its slots (R49, R52, R53, R62). -/

namespace Sys2Proof.Proofs

open Sys2Proof.Machine Sys2Proof.Claims Sys2Proof.Safety

variable {s : State} {st x : Store} {i : Fin 8} {j k : Fin 3} {f : FrameInfo} {tag : Byte}

/-- `StoreLegal`, part by part. -/
structure StoreSound (st : Store) : Prop where
  unbound : st.state = .unbound ↔ st.binding = none
  atRest : st.binding = none → st.silence = 0 ∧ st.dropping = false ∧ ∀ k : Fin 3, (st.slot k).frame = none
  frames : ∀ k : Fin 3, ∀ f ∈ (st.slot k).frame, FrameLegal f
  oneFilling : ∀ j k : Fin 3, (st.slot j).filling = true → (st.slot k).filling = true → j = k
  oneSelected : ∀ j k : Fin 3, (st.slot j).selected = true → (st.slot k).selected = true → j = k
  selected : ∀ k : Fin 3, (st.slot k).selected = true → (st.slot k).number?.isSome = true
  numbers : ∀ k : Fin 3, ∀ n ∈ (st.slot k).number?, 1 ≤ n ∧ n ≤ st.completions
  distinct : ∀ j k : Fin 3, ∀ n ∈ (st.slot j).number?, (st.slot k).number? = some n → j = k
  counter : st.completions ≤ Config.completionMax

theorem storeLegal_iff : StoreLegal st ↔ StoreSound st :=
  ⟨fun ⟨h1, h2, h3, h4, h5, h6, h7, h8, h9⟩ => ⟨h1, h2, h3, h4, h5, h6, h7, h8, h9⟩,
    fun ⟨h1, h2, h3, h4, h5, h6, h7, h8, h9⟩ => ⟨h1, h2, h3, h4, h5, h6, h7, h8, h9⟩⟩

/-- The slots' records stay, and of the rest only what a bound store may change. -/
theorem StoreSound.bound (h : StoreSound st) (hb : x.binding = st.binding) (bound : st.binding ≠ none)
    (hstate : x.state ≠ .unbound) (hslots : x.slots = st.slots) (hc : x.completions = st.completions) : StoreSound x := by
  have slot : x.slot = st.slot := by funext k; rw [Store.slot, hslots, Store.slot]
  refine ⟨⟨fun e => absurd e hstate, fun e => absurd (hb ▸ e) bound⟩, fun e => absurd (hb ▸ e) bound, ?_, ?_, ?_, ?_, ?_, ?_,
    hc ▸ h.counter⟩ <;> rw [slot]
  exacts [h.frames, h.oneFilling, h.oneSelected, h.selected, hc ▸ h.numbers, h.distinct]

/-- A bound store's state is not UNBOUND. -/
theorem StoreSound.state_bound (h : StoreSound st) (bound : st.binding ≠ none) : st.state ≠ .unbound :=
  fun e => bound (h.unbound.1 e)

/-- A selected slot is COMPLETE, so a slot that is FILLING or CLOSING is not selected. -/
theorem StoreSound.unselected (h : StoreSound st) (hf : (st.slot k).frame = some f) (hp : ∀ n, f.phase ≠ .complete n) :
    (st.slot k).selected = false := by
  by_contra hsel
  have complete := h.selected k (by simpa using hsel)
  rw [number?_of_frame hf hp] at complete
  cases complete

theorem withFrame_slot (st : Store) (k : Fin 3) (f : FrameInfo) (j : Fin 3) :
    (withFrame st k f).slot j = if k = j then { st.slot k with frame := some f } else st.slot j := tget_tset _ _ _ _

/-- A slot that is not selected takes a frame that is not COMPLETE; at most one slot is FILLING then. -/
theorem StoreSound.withFrame (h : StoreSound st) (bound : st.binding ≠ none) (hf : FrameLegal f)
    (hsel : (st.slot k).selected = false) (hp : ∀ n, f.phase ≠ .complete n)
    (hfill : f.phase = .filling → ∀ j, j ≠ k → (st.slot j).filling = false) : StoreSound (withFrame st k f) := by
  have own : (Claims.withFrame st k f).slot k = { st.slot k with frame := some f } := by rw [withFrame_slot, if_pos rfl]
  have other {j : Fin 3} (hj : k ≠ j) : (Claims.withFrame st k f).slot j = st.slot j := by rw [withFrame_slot, if_neg hj]
  have number (j : Fin 3) (n : Nat) (hn : n ∈ ((Claims.withFrame st k f).slot j).number?) : k ≠ j ∧ n ∈ (st.slot j).number? := by
    by_cases hj : k = j
    · subst hj
      rw [number?_of_frame (f := f) (by rw [own]) hp] at hn
      cases hn
    · exact ⟨hj, by rwa [other hj] at hn⟩
  have selected (j : Fin 3) : ((Claims.withFrame st k f).slot j).selected = (st.slot j).selected := by
    rw [withFrame_slot]
    split
    · subst_vars; rfl
    · rfl
  have filling (j : Fin 3) (hj : ((Claims.withFrame st k f).slot j).filling = true) :
      (k = j ∧ f.phase = .filling) ∨ (k ≠ j ∧ (st.slot j).filling = true) := by
    by_cases e : k = j
    · subst e
      obtain ⟨g, hg, hgp⟩ := filling_iff.1 hj
      rw [own] at hg
      cases hg
      exact .inl ⟨rfl, hgp⟩
    · exact .inr ⟨e, by rwa [other e] at hj⟩
  refine ⟨h.unbound, fun e => absurd e bound, fun j g hg => ?_, fun a b ha hb => ?_, fun a b ha hb => ?_, fun j hj => ?_,
    fun j n hn => h.numbers j n (number j n hn).2, fun a b n ha hb => h.distinct a b n (number a n ha).2 (number b n hb).2, h.counter⟩
  · rw [withFrame_slot] at hg
    split at hg
    · cases hg; exact hf
    · exact h.frames j g hg
  · rcases filling a ha with ⟨rfl, hpa⟩ | ⟨hka, hfa⟩ <;> rcases filling b hb with ⟨rfl, hpb⟩ | ⟨hkb, hfb⟩
    · rfl
    · rw [hfill hpa b (Ne.symm hkb)] at hfb; cases hfb
    · rw [hfill hpb a (Ne.symm hka)] at hfa; cases hfa
    · exact h.oneFilling a b hfa hfb
  · rw [selected] at ha hb; exact h.oneSelected a b ha hb
  · rw [selected] at hj
    have : k ≠ j := fun e => by subst e; rw [hsel] at hj; cases hj
    rw [other this]
    exact h.selected j hj

/-- Counters and the dropping mark of a bound store are not read. -/
theorem StoreSound.counted (h : StoreSound st) (bound : st.binding ≠ none)
    (hx : (x.binding, x.state, x.slots, x.completions) = (st.binding, st.state, st.slots, st.completions)) : StoreSound x := by
  simp only [Prod.mk.injEq] at hx
  obtain ⟨hb, hst, hs, hc⟩ := hx
  exact h.bound hb bound (hst ▸ h.state_bound bound) hs hc

theorem StoreSound.damagedAt (h : StoreSound st) (bound : st.binding ≠ none) (hf : (st.slot k).frame = some f)
    (hp : ∀ n, f.phase ≠ .complete n) : StoreSound (damagedAt st k f) := by
  have damaged : StoreSound (Claims.withFrame st k { f with phase := .damaged }) :=
    h.withFrame bound (h.frames k f hf) (h.unselected hf hp) (by simp) (by simp)
  exact damaged.counted bound rfl

/-! ### A new frame -/

/-- The slot chosen for a new frame is one of R55's candidates. -/
theorem choice_candidate {lost : Bool} (h : st.choice = some (k, lost)) : (st.slot k).candidate = true := by
  unfold Store.choice at h
  split at h
  · rename_i j hj
    cases h
    have := List.find?_some hj
    simp_all
  · split at h
    · rename_i j hj
      cases h
      have := List.find?_some hj
      simp_all [Store.replaceable]
    · split at h
      · split at h <;> cases h
        assumption
      · cases h

theorem candidate_parts {r : SlotRecord} : r.candidate = true ↔
    r.selected = false ∧ r.pins = 0 ∧ r.filling = false ∧ r.closing = false := by
  simp [SlotRecord.candidate, and_assoc]

/-! ### The selection -/

/-- The newest slot's number is the greatest (R53). -/
theorem newest_eq_some (h : st.newest = some k) : ∃ n, (st.slot k).number? = some n ∧ ∀ j, ∀ m ∈ (st.slot j).number?, m ≤ n := by
  have found := List.find?_some h
  split at found
  · cases found
  · rename_i n hn
    refine ⟨n, hn, fun j m hm => ?_⟩
    have := List.all_eq_true.1 found j (List.mem_finRange j)
    rw [Option.mem_def.1 hm] at this
    exact of_decide_eq_true this

theorem StoreSound.select (h : StoreSound st) (bound : st.binding ≠ none) : StoreSound st.select := by
  refine ⟨h.unbound, fun e => absurd e bound, fun k f hf => ?_, fun a b ha hb => ?_, fun a b ha hb => ?_, fun k hk => ?_,
    fun k n hn => ?_, fun a b n ha hb => ?_, h.counter⟩
  · rw [select_slot] at hf; exact h.frames k f hf
  · rw [select_slot] at ha hb; exact h.oneFilling a b ha hb
  · rw [select_slot] at ha hb
    exact Option.some.inj ((of_decide_eq_true ha).symm.trans (of_decide_eq_true hb))
  · rw [select_slot] at hk ⊢; exact newest_complete (of_decide_eq_true hk)
  · rw [select_slot] at hn; exact h.numbers k n hn
  · rw [select_slot] at ha hb; exact h.distinct a b n ha hb

/-! ### Completion -/

theorem renumber_filling (r : SlotRecord) (n : Nat) : (r.renumber n).filling = r.filling := by
  obtain ⟨frame, selected, pins⟩ := r
  rcases frame with _ | ⟨_ | _ | m | _, tag, width, height, cells, next⟩ <;> rfl

theorem renumber_closing (r : SlotRecord) (n : Nat) : (r.renumber n).closing = r.closing := by
  obtain ⟨frame, selected, pins⟩ := r
  rcases frame with _ | ⟨_ | _ | m | _, tag, width, height, cells, next⟩ <;> rfl

theorem renumber_selected (r : SlotRecord) (n : Nat) : (r.renumber n).selected = r.selected := by
  unfold SlotRecord.renumber
  split <;> rfl

/-- Renumbering leaves every frame but for its number. -/
theorem renumber_frame {r : SlotRecord} {n : Nat} {g : FrameInfo} (h : (r.renumber n).frame = some g) :
    ∃ f, r.frame = some f ∧ g = { f with phase := g.phase } := by
  obtain ⟨frame, selected, pins⟩ := r
  rcases frame with _ | ⟨_ | _ | m | _, tag, width, height, cells, next⟩ <;> cases h <;> exact ⟨_, rfl, rfl⟩

/-- How many COMPLETE slots have a number that is at most `n`. -/
def completeUpTo (st : Store) (n : Nat) : Nat :=
  (List.finRange 3).countP fun j => (st.slot j).number?.isSome && decide ((st.slot j).number?.getD 0 ≤ n)

theorem rank_eq_completeUpTo {n : Nat} (h : (st.slot k).number? = some n) : st.rank k = completeUpTo st n := by
  rw [Store.rank, ← List.countP_eq_length_filter, completeUpTo, h, Option.getD_some]

/-- A predicate that holds wherever another does, and at one more place of a list, counts more there. -/
theorem countP_lt_countP {α : Type} [DecidableEq α] {xs : List α} {p q : α → Bool} {a : α} (ha : a ∈ xs)
    (h : ∀ b, p b = true → q b = true) (hp : p a = false) (hq : q a = true) : xs.countP p < xs.countP q := by
  have rest := List.countP_mono_left (l := xs.erase a) fun b _ => h b
  rw [(List.perm_cons_erase ha).countP_eq p, (List.perm_cons_erase ha).countP_eq q, List.countP_cons, List.countP_cons, hp, hq]
  simp only [Bool.false_eq_true, if_false, if_true]
  omega

/-- A greater number of a COMPLETE slot makes a greater rank. -/
theorem completeUpTo_lt {m n : Nat} (hk : (st.slot k).number? = some n) (h : m < n) : completeUpTo st m < completeUpTo st n := by
  refine countP_lt_countP (List.mem_finRange k) (fun j hj => ?_) (by simp [hk, h]) (by simp [hk])
  simp only [Bool.and_eq_true, decide_eq_true_eq] at hj ⊢
  exact ⟨hj.1, by omega⟩

theorem completeUpTo_pos {n : Nat} (hk : (st.slot k).number? = some n) : 0 < completeUpTo st n :=
  List.countP_pos_iff.2 ⟨k, List.mem_finRange k, by simp [hk]⟩

theorem completeUpTo_le (st : Store) (n : Nat) : completeUpTo st n ≤ st.renumbered.completions := by
  rw [Store.renumbered, ← List.countP_eq_length_filter]
  exact List.countP_mono_left fun j _ hj => (Bool.and_eq_true _ _ ▸ hj).1

/-- Renumbered, a store's COMPLETE slots bear their ranks (R53). -/
theorem renumbered_number? (st : Store) (k : Fin 3) :
    (st.renumbered.slot k).number? = (st.slot k).number?.map (completeUpTo st) := by
  rw [renumbered_slot, renumber_number?]
  cases h : (st.slot k).number? with
  | none => rfl
  | some n => rw [rank_eq_completeUpTo h]; rfl

theorem renumbered_completions_le (st : Store) : st.renumbered.completions ≤ 3 := List.length_filter_le _ _

theorem StoreSound.renumbered (h : StoreSound st) (bound : st.binding ≠ none) : StoreSound st.renumbered := by
  have room := renumbered_completions_le st
  refine ⟨h.unbound, fun e => absurd e bound, fun k g hg => ?_, fun a b ha hb => ?_, fun a b ha hb => ?_, fun k hk => ?_,
    fun k n hn => ?_, fun a b n ha hb => ?_, by rw [Config.completionMax]; omega⟩
  · rw [renumbered_slot] at hg
    obtain ⟨f, hf, e⟩ := renumber_frame hg
    rw [e]
    exact h.frames k f hf
  · rw [renumbered_slot, renumber_filling] at ha hb; exact h.oneFilling a b ha hb
  · rw [renumbered_slot, renumber_selected] at ha hb; exact h.oneSelected a b ha hb
  · rw [renumbered_slot, renumber_selected] at hk
    rw [renumbered_number?, Option.isSome_map]
    exact h.selected k hk
  · rw [renumbered_number?] at hn
    obtain ⟨m, hm, rfl⟩ := Option.map_eq_some_iff.1 hn
    exact ⟨completeUpTo_pos hm, completeUpTo_le st m⟩
  · rw [renumbered_number?] at ha hb
    obtain ⟨m, hm, rfl⟩ := Option.map_eq_some_iff.1 ha
    obtain ⟨m', hm', e⟩ := Option.map_eq_some_iff.1 hb
    have same : m = m' := by
      rcases Nat.lt_trichotomy m m' with hlt | heq | hlt
      · have := completeUpTo_lt hm' hlt; omega
      · exact heq
      · have := completeUpTo_lt hm hlt; omega
    subst same
    exact h.distinct a b m hm hm'

/-- A store that is ready to complete is legal, and its counter has room. -/
theorem StoreSound.ready (h : StoreSound st) (bound : st.binding ≠ none) :
    StoreSound st.readyToComplete ∧ st.readyToComplete.completions < Config.completionMax := by
  have room := renumbered_completions_le st
  unfold Store.readyToComplete
  split
  · exact ⟨h.renumbered bound, by rw [Config.completionMax]; omega⟩
  · exact ⟨h, by omega⟩

/-- A slot takes the next completion number. -/
theorem StoreSound.completed (h : StoreSound st) (bound : st.binding ≠ none) (room : st.completions < Config.completionMax)
    (hf : FrameLegal f) (hp : f.phase = .complete (st.completions + 1)) :
    StoreSound { Claims.withFrame st k f with completions := st.completions + 1, state := .live } := by
  have own : (Claims.withFrame st k f).slot k = { st.slot k with frame := some f } := by rw [withFrame_slot, if_pos rfl]
  have other {j : Fin 3} (hj : k ≠ j) : (Claims.withFrame st k f).slot j = st.slot j := by rw [withFrame_slot, if_neg hj]
  have ownNumber : ((Claims.withFrame st k f).slot k).number? = some (st.completions + 1) :=
    number?_eq_some.2 ⟨f, by rw [own]; rfl, hp⟩
  have number (j : Fin 3) (n : Nat) (hn : ((Claims.withFrame st k f).slot j).number? = some n) :
      (k = j ∧ n = st.completions + 1) ∨ (k ≠ j ∧ (st.slot j).number? = some n) := by
    by_cases hj : k = j
    · subst hj
      exact .inl ⟨rfl, (Option.some.inj (ownNumber.symm.trans hn)).symm⟩
    · exact .inr ⟨hj, by rwa [other hj] at hn⟩
  have selected (j : Fin 3) : ((Claims.withFrame st k f).slot j).selected = (st.slot j).selected := by
    rw [withFrame_slot]
    split
    · subst_vars; rfl
    · rfl
  have filling (j : Fin 3) (hj : ((Claims.withFrame st k f).slot j).filling = true) : (st.slot j).filling = true := by
    by_cases e : k = j
    · subst e
      rw [number?_of_filling hj] at ownNumber
      cases ownNumber
    · rwa [other e] at hj
  refine ⟨⟨(nomatch ·), fun e => absurd e bound⟩, fun e => absurd e bound, fun j g hg => ?_,
    fun a b ha hb => h.oneFilling a b (filling a ha) (filling b hb), fun a b ha hb => ?_, fun j hj => ?_, fun j n hn => ?_,
    fun a b n ha hb => ?_, room⟩
  · change g ∈ ((Claims.withFrame st k f).slot j).frame at hg
    rw [withFrame_slot] at hg
    split at hg
    · cases hg; exact hf
    · exact h.frames j g hg
  · exact h.oneSelected a b ((selected a).symm.trans ha) ((selected b).symm.trans hb)
  · change ((Claims.withFrame st k f).slot j).number?.isSome = true
    by_cases e : k = j
    · subst e; rw [ownNumber]; rfl
    · rw [other e]; exact h.selected j ((selected j).symm.trans hj)
  · show 1 ≤ n ∧ n ≤ st.completions + 1
    rcases number j n hn with ⟨-, rfl⟩ | ⟨-, hn⟩
    · omega
    · have := h.numbers j n hn
      omega
  · rcases number a n ha with ⟨rfl, hna⟩ | ⟨hka, hna⟩ <;> rcases number b n hb with ⟨rfl, hnb⟩ | ⟨hkb, hnb⟩
    · rfl
    · have := h.numbers b n hnb; omega
    · have := h.numbers a n hna; omega
    · exact h.distinct a b n hna hnb

theorem ready_binding (st : Store) : st.readyToComplete.binding = st.binding := (storeKept_ready st).binding

theorem ready_state (st : Store) : st.readyToComplete.state = st.state := by
  unfold Store.readyToComplete
  split <;> rfl

/-- R61 keeps a bound store legal. -/
theorem StoreSound.complete (h : StoreSound st) (bound : st.binding ≠ none) (hf : (st.slot k).frame = some f) :
    StoreSound (st.complete k f) := by
  obtain ⟨ready, room⟩ := h.ready bound
  have bound' : st.readyToComplete.binding ≠ none := by rwa [ready_binding]
  have live : completedState st.readyToComplete.state = .live :=
    completedState_bound (by rw [ready_state]; exact h.state_bound bound)
  refine (ready.completed (k := k) (f := { f with phase := .complete (st.readyToComplete.completions + 1) }) bound' room
    (h.frames k f hf) rfl).counted bound' ?_
  simp only [Store.complete, live]
  rfl

end Sys2Proof.Proofs
end

section
/-! PROOFS. The stores and the write queue stay legal together (R49 to R62), at every command. -/

namespace Sys2Proof.Proofs

open Sys2Proof.Machine Sys2Proof.Claims Sys2Proof.Safety

variable {s t : State} {st x : Store} {i : Fin 8} {j k : Fin 3} {f : FrameInfo} {tag : Byte}

/-! ### The legality, part by part -/

/-- `StoresLegal`, part by part. -/
structure StoresSound (s : State) : Prop where
  stores : ∀ i : Fin 8, StoreSound (s.store i)
  oneBinding : ∀ i j : Fin 8, (s.store i).binding.isSome = true → (s.store i).binding = (s.store j).binding → i = j
  room : s.queue.length ≤ Config.queueRoom
  entries : ∀ e ∈ s.queue, EntryLegal s e
  markers : ∀ i : Fin 8, ∀ k : Fin 3, s.queue.count (.close i k) = markersDue ((s.store i).slot k)

theorem storesLegal_iff : StoresLegal s ↔ StoresSound s :=
  ⟨fun ⟨h1, h2, h3, h4, h5⟩ => ⟨fun i => storeLegal_iff.1 (h1 i), h2, h3, h4, h5⟩,
    fun ⟨h1, h2, h3, h4, h5⟩ => ⟨fun i => storeLegal_iff.2 (h1 i), h2, h3, h4, h5⟩⟩

theorem storeSound_unpinned : StoreSound (unpinned st) ↔ StoreSound st := by
  rw [← storeLegal_iff, ← storeLegal_iff]
  simp only [StoreLegal, unpinned_slot]
  exact Iff.rfl

theorem StoresAlike.binding (h : StoresAlike s t) (i : Fin 8) : (t.store i).binding = (s.store i).binding := by
  have same := congrArg Store.binding (h.stores i)
  exact same

/-- The pins are not read. -/
theorem StoresAlike.sound (h : StoresAlike s t) (hs : StoresSound s) : StoresSound t := by
  refine ⟨fun i => ?_, fun i j => ?_, h.queue ▸ hs.room, fun e he => ?_, fun i k => ?_⟩
  · rw [← storeSound_unpinned, h.stores, storeSound_unpinned]
    exact hs.stores i
  · rw [h.binding, h.binding]
    exact hs.oneBinding i j
  · rw [EntryLegal, h.binding]
    exact hs.entries e (h.queue ▸ he)
  · have due (r : SlotRecord) : markersDue { r with pins := 0 } = markersDue r := rfl
    have slot := congrArg (fun st => st.slot k) (h.stores i)
    simp only [unpinned_slot] at slot
    rw [h.queue, hs.markers, ← due, ← due ((t.store i).slot k), slot]

/-! ### One store is written -/

/-- Store `i` is written and its binding stays, with the queue that goes with it. -/
theorem StoresSound.write {q : List QueueEntry} (hs : StoresSound s) (hx : StoreSound x) (hb : x.binding = (s.store i).binding)
    (room : q.length ≤ Config.queueRoom)
    (entries : ∀ e ∈ q, e ∈ s.queue ∨ ((s.store e.store).binding ≠ none ∧ entryInRange e = true))
    (own : ∀ k, q.count (.close i k) = markersDue (x.slot k))
    (others : ∀ j, j ≠ i → ∀ k, q.count (.close j k) = s.queue.count (.close j k))
    (ht : t.stores = tset s.stores i x) (hq : t.queue = q) : StoresSound t := by
  have store (j : Fin 8) : t.store j = if i = j then x else s.store j := by rw [State.store, ht, tget_tset, State.store]
  have binding (j : Fin 8) : (t.store j).binding = (s.store j).binding := by
    rw [store]
    split
    · subst_vars; exact hb
    · rfl
  refine ⟨fun j => ?_, fun a b => ?_, hq ▸ room, fun e he => ?_, fun j k => ?_⟩
  · rw [store]
    split
    · exact hx
    · exact hs.stores j
  · rw [binding, binding]
    exact hs.oneBinding a b
  · rw [EntryLegal, binding]
    rcases entries e (hq ▸ he) with old | new
    · exact hs.entries e old
    · exact ⟨Option.isSome_iff_ne_none.2 new.1, new.2⟩
  · rw [hq, store]
    split
    · subst_vars; exact own k
    · rw [others j (Ne.symm ‹_›), hs.markers]

/-- Store `i` is written, its binding and its CLOSING slots as they were. -/
theorem StoresSound.setStore (hs : StoresSound s) (hx : StoreSound x) (hb : x.binding = (s.store i).binding)
    (hc : ∀ k, (x.slot k).closing = ((s.store i).slot k).closing) : StoresSound (s.setStore i x) :=
  hs.write hx hb hs.room (fun _ he => .inl he) (fun k => by rw [hs.markers, markersDue, markersDue, hc]) (fun _ _ _ => rfl) rfl rfl

/-- Counters and the dropping mark of a bound store are written. -/
theorem StoresSound.setStore_counted (hs : StoresSound s) (bound : (s.store i).binding ≠ none)
    (hx : (x.binding, x.state, x.slots, x.completions)
      = ((s.store i).binding, (s.store i).state, (s.store i).slots, (s.store i).completions)) : StoresSound (s.setStore i x) := by
  have hb : x.binding = (s.store i).binding := congrArg (·.1) hx
  have hk : x.slots = (s.store i).slots := congrArg (·.2.2.1) hx
  exact hs.setStore ((hs.stores i).counted bound hx) hb fun k => by rw [Store.slot, hk, Store.slot]

theorem closing_iff {r : SlotRecord} : r.closing = true ↔ ∃ f, r.frame = some f ∧ f.phase = .closing := by
  obtain ⟨frame, selected, pins⟩ := r
  rcases frame with _ | ⟨_ | _ | m | _, tag, width, height, cells, next⟩ <;> simp [SlotRecord.closing]

theorem closing_of_frame {r : SlotRecord} (h : r.frame = some f) (hp : f.phase ≠ .closing) : r.closing = false := by
  rw [← Bool.not_eq_true, closing_iff]
  rintro ⟨g, hg, hgp⟩
  rw [h] at hg
  cases hg
  exact hp hgp

/-- A slot that is not CLOSING takes a frame that is not: the CLOSING slots of the store stay. -/
theorem withFrame_closing (hc : (st.slot k).closing = false) (hp : f.phase ≠ .closing) (j : Fin 3) :
    ((withFrame st k f).slot j).closing = (st.slot j).closing := by
  rw [withFrame_slot]
  split
  · subst_vars
    rw [hc]
    exact closing_of_frame rfl hp
  · rfl

/-! ### Picture cells -/

theorem damageFrame_sound (hs : StoresSound s) (bound : (s.store i).binding ≠ none) (hf : ((s.store i).slot k).frame = some f)
    (hp : f.phase = .filling) : StoresSound (damageFrame i k s) := by
  rw [damageFrame_eq hf]
  refine StoresAlike.sound (s := s.setStore i _) (.same rfl rfl) (hs.setStore
    ((hs.stores i).damagedAt bound hf (by simp [hp])) rfl ?_)
  exact withFrame_closing (closing_of_frame hf (by simp [hp])) (by simp)

theorem strayCell_sound (hs : StoresSound s) (bound : (s.store i).binding ≠ none) :
    StoresSound (s.setStore i (s.store i).strayCell) := hs.setStore_counted bound rfl

theorem arrival_sound (hs : StoresSound s) (bound : (s.store i).binding ≠ none) :
    StoresSound (s.setStore i (s.store i).arrival) := hs.setStore_counted bound rfl

theorem arrival_binding (i : Fin 8) (s : State) : ((s.setStore i (s.store i).arrival).store i).binding = (s.store i).binding := by
  rw [store_setStore]
  rfl

theorem count_append_of_ne (q : List QueueEntry) (e : QueueEntry) (j : Fin 8) (k : Fin 3) (he : e ≠ .close j k) :
    (q ++ [e]).count (.close j k) = q.count (.close j k) := by
  rw [List.count_append, List.count_singleton, if_neg (by simpa using he), Nat.add_zero]

/-- An entry of store `i` joins the queue, and its slot `k`, FILLING so far, takes the frame that goes with it. -/
theorem accepted_sound {e : QueueEntry} {g : FrameInfo} (hs : StoresSound s) (bound : (s.store i).binding ≠ none)
    (hf : ((s.store i).slot k).frame = some f) (hp : f.phase = .filling) (hroom : s.queue.length < Config.queueRoom)
    (hg : FrameLegal g) (hgp : ∀ n, g.phase ≠ .complete n) (he : e.store = i) (hrange : entryInRange e = true)
    (hclose : e = .close i k ∧ g.phase = .closing ∨ (∀ j l, e ≠ .close j l) ∧ g.phase ≠ .closing) :
    StoresSound { s.setStore i (withFrame (s.store i) k g) with queue := s.queue ++ [e] } := by
  have filling : ((s.store i).slot k).filling = true := filling_iff.2 ⟨f, hf, hp⟩
  have notClosing : ((s.store i).slot k).closing = false := closing_of_frame hf (by simp [hp])
  have sound : StoreSound (withFrame (s.store i) k g) :=
    (hs.stores i).withFrame bound hg ((hs.stores i).unselected hf (by simp [hp])) hgp fun _ j hj => by
      rw [← Bool.not_eq_true]
      exact fun h => hj ((hs.stores i).oneFilling j k h filling)
  refine hs.write (q := s.queue ++ [e]) sound rfl (by rw [List.length_append]; exact hroom) (fun e' he' => ?_) (fun j => ?_)
    (fun j hj l => ?_) rfl rfl
  · rcases List.mem_append.1 he' with old | new
    · exact .inl old
    · cases List.mem_singleton.1 new
      exact .inr ⟨he ▸ bound, hrange⟩
  · rcases hclose with ⟨rfl, hgc⟩ | ⟨hne, hgc⟩
    · rw [List.count_append, hs.markers, withFrame_slot]
      split
      · rename_i hkj
        subst hkj
        have closing : SlotRecord.closing { (s.store i).slot k with frame := some g } = true := closing_iff.2 ⟨g, rfl, hgc⟩
        simp [markersDue, notClosing, closing]
      · rename_i hne
        simp [hne]
    · rw [count_append_of_ne _ _ _ _ (hne i j), hs.markers, markersDue, markersDue, withFrame_closing notClosing hgc]
  · refine count_append_of_ne _ _ _ _ ?_
    rintro rfl
    exact hj he

theorem matchPic_sound (hs : StoresSound s) (bound : (s.store i).binding ≠ none) {sequence line first : Nat} {px : List Colour}
    (hr : line ≤ 1199 ∧ first ≤ 1919 ∧ 1 ≤ px.length ∧ px.length ≤ 240) : StoresSound (matchPic i tag sequence line first px s) := by
  unfold matchPic
  split
  · exact strayCell_sound hs bound
  · rename_i k f hm
    obtain ⟨hf, hp, -⟩ := matching_eq_some hm
    have damaged := damageFrame_sound hs bound hf hp
    have legal := (hs.stores i).frames k f hf
    split
    · exact damaged
    · rename_i hseq
      split
      · exact (raise_alike _ _).sound damaged
      · rename_i hfull
        rw [queueFull_iff] at hfull
        rw [acceptPic_eq]
        refine accepted_sound hs bound hf hp (by rw [Config.queueRoom]; omega) ?_ (by simp [hp]) rfl
          (decide_eq_true hr) (.inr ⟨by simp, by simp [hp]⟩)
        obtain ⟨h1, h2, h3, h4, h5, h6, h7⟩ := legal
        exact ⟨h1, h2, h3, h4, h5, h6, by simp only; omega⟩

theorem storePic_sound (hs : StoresSound s) (bound : (s.store i).binding ≠ none) (sequence line first count : Nat)
    {px : List Colour} (hpx : px.length = count) : StoresSound (storePic i tag sequence line first count px s) := by
  have arrived := arrival_sound hs bound
  have bound' : ((s.setStore i (s.store i).arrival).store i).binding ≠ none := by rwa [arrival_binding]
  unfold storePic
  simp only
  split
  · exact arrived
  · split
    · rename_i hr
      exact matchPic_sound arrived bound' (hpx ▸ of_decide_eq_true hr)
    · exact strayCell_sound arrived bound'

theorem matchClose_sound (hs : StoresSound s) (bound : (s.store i).binding ≠ none) (cells : Nat) :
    StoresSound (matchClose i tag cells s) := by
  unfold matchClose
  split
  · exact strayCell_sound hs bound
  · rename_i k f hm
    obtain ⟨hf, hp, -⟩ := matching_eq_some hm
    have damaged := damageFrame_sound hs bound hf hp
    split
    · exact damaged
    · split
      · exact (raise_alike _ _).sound damaged
      · rename_i hfull
        rw [queueFull_iff] at hfull
        rw [acceptClose_eq]
        exact accepted_sound hs bound hf hp (by rw [Config.queueRoom]; omega) ((hs.stores i).frames k f hf) (by simp) rfl rfl
          (.inl ⟨rfl, rfl⟩)

theorem storeClose_sound (hs : StoresSound s) (bound : (s.store i).binding ≠ none) (cells : Nat) :
    StoresSound (storeClose i tag cells s) := by
  have arrived := arrival_sound hs bound
  have bound' : ((s.setStore i (s.store i).arrival).store i).binding ≠ none := by rwa [arrival_binding]
  unfold storeClose
  simp only
  split
  · exact arrived
  · exact matchClose_sound arrived bound' cells

/-- Step 1 of R55 leaves no slot FILLING. -/
theorem endUnclosed_sound (hs : StoresSound s) (bound : (s.store i).binding ≠ none) : StoresSound (endUnclosed i s)
    ∧ ((endUnclosed i s).store i).binding = (s.store i).binding ∧ ∀ k, (((endUnclosed i s).store i).slot k).filling = false := by
  unfold endUnclosed
  split
  · rename_i k hk
    obtain ⟨f, hf, hp⟩ := filling_iff.1 (fillingSlot_filling hk)
    refine ⟨damageFrame_sound hs bound hf hp, ?_⟩
    rw [damageFrame_eq hf]
    have store : (raised 4 (s.setStore i (damagedAt (s.store i) k f))).store i = damagedAt (s.store i) k f :=
      store_setStore i _ s
    rw [store]
    refine ⟨rfl, fun j => ?_⟩
    show ((withFrame (s.store i) k { f with phase := .damaged }).slot j).filling = false
    rw [withFrame_slot]
    split
    · rfl
    · rename_i hne
      rw [← Bool.not_eq_true]
      exact fun h => hne ((hs.stores i).oneFilling k j (fillingSlot_filling hk) h)
  · rename_i hnone
    exact ⟨hs, rfl, fillingSlot_none hnone⟩

theorem clearDropping_sound (hs : StoresSound s) (bound : (s.store i).binding ≠ none) : StoresSound (clearDropping i s)
    ∧ ((clearDropping i s).store i).binding = (s.store i).binding
    ∧ ∀ k, ((clearDropping i s).store i).slot k = (s.store i).slot k := by
  refine ⟨hs.setStore_counted bound rfl, ?_⟩
  rw [clearDropping, store_setStore]
  exact ⟨rfl, fun _ => rfl⟩

theorem chooseSlot_sound (hs : StoresSound s) (bound : (s.store i).binding ≠ none)
    (hfill : ∀ k, ((s.store i).slot k).filling = false) {width height cells : Nat}
    (hr : openInRange width height cells = true) : StoresSound (chooseSlot i tag width height cells s) := by
  have range := of_decide_eq_true hr
  unfold chooseSlot
  simp only
  split
  · rename_i k lost hk
    obtain ⟨hsel, -, -, hclosing⟩ := candidate_parts.1 (choice_candidate hk)
    have frame : FrameLegal ⟨.filling, tag, width, height, cells, 0⟩ := by simp only [FrameLegal]; omega
    have sound := (hs.stores i).withFrame bound frame hsel (by simp) fun _ j _ => hfill j
    have closing := withFrame_closing (f := ⟨.filling, tag, width, height, cells, 0⟩) hclosing (by simp)
    refine (raiseIf_alike _ _ _).sound ?_
    cases lost
    · exact hs.setStore sound rfl closing
    · exact hs.setStore (sound.counted bound rfl) rfl closing
  · exact (raise_alike _ _).sound (hs.setStore_counted bound rfl)

theorem storeOpen_sound (hs : StoresSound s) (bound : (s.store i).binding ≠ none) (width height cells : Nat) :
    StoresSound (storeOpen i tag width height cells s) := by
  have arrived := arrival_sound hs bound
  have bound' : ((s.setStore i (s.store i).arrival).store i).binding ≠ none := by rwa [arrival_binding]
  unfold storeOpen
  simp only
  split
  · rename_i hr
    obtain ⟨ended, hb, hfill⟩ := endUnclosed_sound arrived bound'
    rw [← hb] at bound'
    obtain ⟨cleared, hb', hslot⟩ := clearDropping_sound ended bound'
    exact chooseSlot_sound cleared (hb'.symm ▸ bound') (fun k => by rw [hslot]; exact hfill k) hr
  · exact strayCell_sound arrived bound'

theorem forStore_sound {src : Fin 16} {act : Fin 8 → State → State}
    (h : ∀ i, (s.store i).binding ≠ none → StoresSound s → StoresSound (act i s)) (hs : StoresSound s) :
    StoresSound (forStore src act s) := by
  unfold forStore
  split
  · exact hs
  · rename_i i hi
    exact h i (by rw [storeOf_binding hi]; simp) hs

theorem surveyCell_alike (src : Fin 16) (g : SurveyRecord → SurveyRecord) (s : State) : StoresAlike s (surveyCell src g s) :=
  .ite (.same rfl rfl) (.refl s)

theorem capture_alike (src : Fin 16) (s : State) : StoresAlike s (capture src s) := .ite (.same rfl rfl) (.refl s)

theorem reachTick_alike (tick : Nat) (s : State) : StoresAlike s (reachTick tick s) := .ite (.same rfl rfl) (.refl s)

theorem takeOpen_sound (source tag : Byte) (width height cells : Half) (tick : Nat) (hs : StoresSound s) :
    StoresSound (takeOpen source tag width height cells tick s) := by
  have reached := (reachTick_alike tick s).sound hs
  unfold takeOpen
  simp only
  split
  · exact reached
  · exact forStore_sound (fun i bound h => storeOpen_sound h bound _ _ _)
      ((capture_alike _ _).sound ((surveyCell_alike _ _ _).sound reached))

theorem takePic_sound (source tag : Byte) (sequence line first : Half) (count : Byte) (pixels : List Word) (hs : StoresSound s) :
    StoresSound (takePic source tag sequence line first count pixels s) := by
  unfold takePic
  split
  · exact hs
  · exact forStore_sound (fun i bound h => storePic_sound h bound _ _ _ _ (picPixels_length _ _)) ((surveyCell_alike _ _ _).sound hs)

theorem takeClose_sound (source tag : Byte) (cells : Half) (hs : StoresSound s) : StoresSound (takeClose source tag cells s) := by
  unfold takeClose
  split
  · exact hs
  · exact forStore_sound (fun i bound h => storeClose_sound h bound _) hs

/-! ### The grants of frame memory -/

theorem serveFetches_alike (s : State) : StoresAlike s (serveFetches s) := by
  rw [serveFetches_eq]
  exact .same rfl rfl

/-- A PIC write leaves the head of the queue (R60). -/
theorem picWriteStep_sound (hs : StoresSound s) : StoresSound (picWriteStep s) := by
  have served := (serveFetches_alike s).sound hs
  unfold picWriteStep
  simp only
  split
  · rename_i i k line first px rest _ hq
    have room := served.room
    rw [hq, List.length_cons] at room
    have count (j : Fin 8) (l : Fin 3) : rest.count (.close j l) = (serveFetches s).queue.count (.close j l) := by
      rw [hq, List.count_cons_of_ne (by simp)]
    exact served.write (i := i) (x := (serveFetches s).store i) (q := rest) (served.stores i) rfl (by omega)
      (fun e he => .inl (hq ▸ List.mem_cons_of_mem _ he)) (fun l => by rw [count, served.markers]) (fun j _ l => count j l)
      (tset_tget _ _).symm rfl
  · exact hs

/-- A close marker leaves the head of the queue, and its slot is COMPLETE (R61). -/
theorem completionStep_sound (hs : StoresSound s) : StoresSound (completionStep s) := by
  have served := (serveFetches_alike s).sound hs
  unfold completionStep
  simp only
  split
  · rename_i i k rest _ hq
    generalize serveFetches s = u at *
    have room := served.room
    rw [hq, List.length_cons] at room
    have bound : (u.store i).binding ≠ none :=
      Option.isSome_iff_ne_none.1 (served.entries (.close i k) (hq ▸ List.mem_cons_self)).1
    have own := served.markers i k
    rw [hq, List.count_cons_self] at own
    have closing : ((u.store i).slot k).closing = true := by
      by_contra h
      simp [markersDue, h] at own
    have gone : rest.count (.close i k) = 0 := by simpa [markersDue, closing] using own
    obtain ⟨f, hf, hp⟩ := closing_iff.1 closing
    rw [completeSlot_closing (s := grantHead rest u) hf hp]
    have others (j : Fin 8) (l : Fin 3) (h : ¬ (j = i ∧ l = k)) : rest.count (.close j l) = u.queue.count (.close j l) := by
      rw [hq, List.count_cons_of_ne]
      rintro ⟨⟩
      exact h ⟨rfl, rfl⟩
    refine served.write (i := i) (x := (u.store i).complete k f) (q := rest) ((served.stores i).complete bound hf)
      (storeKept_complete _ _ _).binding (by omega) (fun e he => .inl (hq ▸ List.mem_cons_of_mem _ he)) (fun l => ?_)
      (fun j hj l => others j l fun e => hj e.1) rfl rfl
    have slot : ((u.store i).complete k f).slot l
        = if k = l then ((u.store i).readyToComplete.slot k).withFrame { f with phase := .complete _ }
          else (u.store i).readyToComplete.slot l := Store.setSlot_slot _ _ _ _
    have ready : ((u.store i).readyToComplete.slot l).closing = ((u.store i).slot l).closing := by
      unfold Store.readyToComplete
      split
      · rw [renumbered_slot, renumber_closing]
      · rfl
    rw [slot]
    split
    · subst_vars; exact gone
    · rw [others i l (fun e => ‹¬k = l› e.2.symm), served.markers, markersDue, markersDue, ready]
  · exact hs

/-! ### STM at an output frame end -/

theorem countSilence_sound (i : Fin 8) (hs : StoresSound s) : StoresSound (countSilence i s) := by
  simp only [countSilence]
  split
  · exact hs
  · rename_i src hsrc
    have bound : (s.store i).binding ≠ none := by rw [hsrc]; simp
    have alive := (hs.stores i).state_bound bound
    have state : ∀ n, silenceState s.limits (s.store i).state n ≠ .unbound := fun n => by
      unfold silenceState
      split
      · split_ifs <;> simp
      · split_ifs <;> simp
      · exact alive
    have counted (n : Nat) (b b' : Bool) : StoresSound (((s.setStore i { s.store i with
        silence := n, state := silenceState s.limits (s.store i).state n }).raiseIf b .sourceStale).raiseIf b' .sourceLost) :=
      (raiseIf_alike _ _ _).sound ((raiseIf_alike _ _ _).sound (hs.setStore ((hs.stores i).bound rfl bound (state n) rfl rfl) rfl
        fun _ => rfl))
    split
    · exact (leaveLive_alike _ _).sound (counted _ _ _)
    · exact counted _ _ _

theorem selectStore_sound (i : Fin 8) (hs : StoresSound s) : StoresSound (selectStore i s) := by
  unfold selectStore
  split
  · rename_i bound
    exact hs.setStore ((hs.stores i).select (Option.isSome_iff_ne_none.1 bound)) rfl fun k => by rw [select_slot]; rfl
  · exact hs

theorem takeArmed_sound (o : Fin 4) (w : Fin 8) (hs : StoresSound s) : StoresSound (takeArmed o w s) := by
  unfold takeArmed
  split
  · rename_i tag i _
    have selected := selectStore_sound i hs
    simp only
    split
    · exact selected
    · split
      · split
        · exact (takeFreeze_alike _ _ _ _ _ _).sound selected
        · exact (takeFreeze_alike _ _ _ _ _ _).sound selected
        · exact selected
      · exact selected
  · exact hs

theorem framePart_sound (x : FrameEndPart) (hs : StoresSound s) : StoresSound (framePart x s) := by
  cases x with
  | silence =>
    refine foldl_keeps (fun s i h => ?_) _ hs
    split
    · exact h
    · exact countSilence_sound i h
  | selection => exact foldl_keeps (fun s i h => selectStore_sound i h) _ hs
  | freezes =>
    rw [framePart, freezePart]
    generalize allWindows = windows
    exact foldl_keeps (P := StoresSound) (fun s ow h => takeArmed_sound ow.1 ow.2 h) windows hs
  | swap | transitions | lists | survey | count | raster | genlock => exact (framePart_alike (by simp) s).sound hs

theorem frameEnd_sound (order : List FrameEndPart) (hs : StoresSound s) : StoresSound (frameEnd order s) :=
  StoresAlike.sound (s := afterParts order s) (.same rfl rfl) (foldl_keeps (fun _ x h => framePart_sound x h) _ hs)

/-! ### SUBSCRIBE and RELEASE -/

theorem cleared_sound (hb : x.binding = none ↔ x.state = .unbound) (hrest : x.binding = none → x.silence = 0 ∧ x.dropping = false)
    (hslots : x.slots = clearedSlots) (hc : x.completions ≤ Config.completionMax) : StoreSound x := by
  have slot (k : Fin 3) : x.slot k = ⟨none, false, 0⟩ := by rw [Store.slot, hslots, clearedSlots, tget_replicate]
  refine ⟨hb.symm, fun h => ⟨(hrest h).1, (hrest h).2, fun k => by rw [slot]⟩, fun k f hf => ?_, fun j k h => ?_, fun j k h => ?_,
    fun k h => ?_, fun k n h => ?_, fun j k n h => ?_, hc⟩ <;> rw [slot] at * <;> contradiction

/-- The queue after the end of store `i`'s binding has no entry of the store (R51). -/
theorem endBinding_queue (hs : StoresSound s) (i : Fin 8) : (endBinding i s).queue = s.queue.filter (fun e => e.store ≠ i) := by
  cases hb : (s.store i).binding with
  | none =>
    rw [endBinding_unbound hb, eq_comm, List.filter_eq_self]
    intro e he
    have bound := (hs.entries e he).1
    refine decide_eq_true fun e => ?_
    rw [e, hb] at bound
    cases bound
  | some src => rw [endBinding_bound hb, (leaveLive_alike src _).queue]; rfl

/-- Store `i` is bound anew or released, its slots cleared, to no other store's source. -/
theorem rebound_sound (hs : StoresSound s) (hx : StoreSound x) (hslots : x.slots = clearedSlots)
    (hnew : ∀ j, j ≠ i → x.binding ≠ none → (s.store j).binding ≠ x.binding) : StoresSound ((endBinding i s).setStore i x) := by
  have queue : ((endBinding i s).setStore i x).queue = s.queue.filter (fun e => e.store ≠ i) := endBinding_queue hs i
  have store (j : Fin 8) : ((endBinding i s).setStore i x).store j = if i = j then x else s.store j := by
    rw [State.setStore_store, State.store, endBinding_stores, State.store]
  generalize (endBinding i s).setStore i x = u at *
  refine ⟨fun j => ?_, fun a b ha hab => ?_, queue ▸ (List.length_filter_le _ _).trans hs.room, fun e he => ?_, fun j k => ?_⟩
  · rw [store]
    split
    · exact hx
    · exact hs.stores j
  · rw [store] at ha
    rw [store, store] at hab
    split at ha <;> rename_i hia
    · rw [if_pos hia] at hab
      split at hab <;> rename_i hib
      · exact hia.symm.trans hib
      · exact absurd hab.symm (hnew b (Ne.symm hib) (Option.isSome_iff_ne_none.1 ha))
    · rw [if_neg hia] at hab
      split at hab <;> rename_i hib
      · exact absurd hab (hnew a (Ne.symm hia) (hab ▸ Option.isSome_iff_ne_none.1 ha))
      · exact hs.oneBinding a b ha hab
  · rw [queue, List.mem_filter] at he
    obtain ⟨hmem, hne⟩ := he
    have other : i ≠ e.store := Ne.symm (of_decide_eq_true hne)
    rw [EntryLegal, store, if_neg other]
    exact hs.entries e hmem
  · rw [queue, store]
    split
    · subst_vars
      have empty : x.slot k = ⟨none, false, 0⟩ := by rw [Store.slot, hslots, clearedSlots, tget_replicate]
      rw [empty, List.count_eq_zero.2]
      · rfl
      · simp [QueueEntry.store]
    · rename_i hne
      rw [List.count_filter (a := .close j k) (p := fun e : QueueEntry => decide (e.store ≠ i)) (decide_eq_true (Ne.symm hne)), hs.markers]

theorem subscribeAnswer_sound (store source : Byte) (hs : StoresSound s) : StoresSound (subscribeAnswer store source s).state := by
  unfold subscribeAnswer
  split
  · rename_i i src _ _
    split
    · exact hs
    · rename_i hdup
      split
      · exact hs
      · refine rebound_sound hs (cleared_sound (by simp [Store.bound]) (by simp [Store.bound]) rfl (Nat.zero_le _)) rfl fun j hj _ hsame => ?_
        exact hdup (List.any_eq_true.2 ⟨j, List.mem_finRange j, by simpa [hj, Store.bound] using hsame⟩)
  · exact hs

theorem releaseAnswer_sound (store : Byte) (hs : StoresSound s) : StoresSound (releaseAnswer store s).state := by
  unfold releaseAnswer
  split
  · exact hs
  · split
    · exact hs
    · split
      · exact hs
      · exact rebound_sound hs (cleared_sound (by simp [Store.released]) (by simp [Store.released]) rfl (hs.stores _).counter) rfl
          fun _ _ h => absurd rfl h

/-! ### Every command -/

theorem reset_sound : StoresSound State.reset := storesLegal_iff.1 reset_stores

theorem restarted_sound (s : State) : StoresSound (restarted s) :=
  StoresAlike.sound (s := State.reset) (.same rfl rfl) reset_sound

theorem onCell_sound {act : State → State} (ha : ∀ s, StoresSound s → StoresSound (act s)) (e : onCell act s = .next t)
    (hs : StoresSound s) : StoresSound t := by
  cases e
  split
  · exact ha _ ((goodCell_alike s).sound hs)
  · exact (noCell_alike s).sound hs

theorem onForwarded_sound {act : State → State} (ha : ∀ s, StoresSound s → StoresSound (act s)) (e : onForwarded act s = .next t)
    (hs : StoresSound s) : StoresSound t := onCell_sound (fun s h => (send_alike _ _).sound (ha s h)) e hs

theorem onRequest_sound {q : ReqHead} {code : Byte} {own : State → Answer} {all : State → State}
    (ho : ∀ s, StoresSound s → StoresSound (own s).state) (ha : ∀ s, StoresSound s → StoresSound (all s))
    (e : onRequest q code own all s = .next t) (hs : StoresSound s) : StoresSound t := by
  refine onCell_sound (fun s h => ?_) e hs
  split
  · exact (send_alike _ _).sound (ha s h)
  · split
    · exact (send_alike _ _).sound (ho s h)
    · exact (send_alike _ _).sound h

theorem mark_alike (x : FrameEndMark) (s : State) : StoresAlike s (s.mark x) := .same rfl rfl

theorem silenceMove_sound (i : Fin 8) (before : List SourceState) (after : SourceState) (hs : StoresSound s) :
    StoresSound (silenceMove i before after s) := by
  unfold silenceMove
  split
  · exact (mark_alike _ _).sound (countSilence_sound i hs)
  · exact hs

/-- Every command keeps the stores and the write queue legal. -/
theorem exec_sound {c : Instr} (e : exec c s = .next t) (hs : StoresSound s) : StoresSound t := by
  cases c with
  | subscribe => exact onRequest_sound (fun _ h => subscribeAnswer_sound _ _ h) (fun _ h => h) e hs
  | release => exact onRequest_sound (fun _ h => releaseAnswer_sound _ h) (fun _ h => h) e hs
  | restart => exact onRequest_sound (fun s _ => restarted_sound s) (fun s _ => restarted_sound s) e hs
  | frameOpen => exact onForwarded_sound (fun _ h => takeOpen_sound _ _ _ _ _ _ h) e hs
  | pic => exact onForwarded_sound (fun _ h => takePic_sound _ _ _ _ _ _ _ h) e hs
  | frameClose => exact onForwarded_sound (fun _ h => takeClose_sound _ _ _ h) e hs
  | powerOn => cases e; exact StoresAlike.sound (s := State.reset) (.same rfl rfl) reset_sound
  | outputFrameEnd order =>
    cases e
    split
    · exact frameEnd_sound order hs
    · exact hs
  | picWrite => cases e; exact picWriteStep_sound hs
  | completion => cases e; exact completionStep_sound hs
  | sourceStale i => cases e; exact silenceMove_sound i _ _ hs
  | sourceLost i => cases e; exact silenceMove_sound i _ _ hs
  -- STM takes no part in any other command.
  | _ => exact (exec_alike rfl e).sound hs

/-- Settles O58: each command keeps the stores and the queue legal, and a tick touches neither. -/
theorem stepsKeepTheStores : Obligations.StepsKeepTheStores := by
  intro s t hs e
  refine storesLegal_iff.2 ?_
  unfold step at e
  split at e
  · cases e
    exact (idleTick_alike s).sound (storesLegal_iff.1 hs)
  · exact exec_sound (s := { s with pending := _ }) e (storesLegal_iff.1 hs)

end Sys2Proof.Proofs
end

section
/-! PROOFS. The ranges of the receiver, the address, the counters, the clock and the cues (R48, R116, R129, R139, R144, R149, R151): all
but the stores' counters. -/

namespace Sys2Proof.Proofs

open Sys2Proof.Machine Sys2Proof.Claims Sys2Proof.Safety

variable {s t : State} {l : List Piece}

/-! ### The ranges, piece by piece -/

/-- The receiver's part of `TrunkLegal`. -/
structure TrxSound (x : Trx) : Prop where
  run : x.goodRun ≤ 2
  errors : x.consecErrors ≤ 4
  headers : x.headerErrors ≤ 65535
  broken : x.brk.isSome = true → x.link = .hunt ∧ x.goodRun = 0 ∧ x.consecErrors = 0

/-- The survey's part of `CountersLegal`. -/
structure SurveySound (v : Survey) : Prop where
  left : v.framesLeft ≤ 255
  running : v.state = .running → 1 ≤ v.framesLeft
  records : ∀ src : Fin 16, (tget v.records src).pics ≤ 65535 ∧ (tget v.records src).opens ≤ 65535

/-- The ranges but for the stores' counters, piece by piece. -/
structure PartRanges (s : State) : Prop where
  trx : TrxSound s.trx
  address : ∀ a ∈ s.address, 1 ≤ a.toNat ∧ a.toNat ≤ 30
  limits : 1 ≤ s.limits.hold ∧ s.limits.hold ≤ 255 ∧ s.limits.hold < s.limits.loss ∧ s.limits.loss ≤ 4095
  counter : s.rgu.counter ≤ 4294967295
  survey : SurveySound s.survey
  clock : ∀ c ∈ s.clock, ClockLegal c
  cues : ∀ i : Fin 16, ∀ c ∈ s.cue i, CueLegal c

/-- The pieces of state that these ranges are about. -/
def rangePieces : List Piece := [.trunk, .address, .limits, .counter, .survey, .clock, .cues]

/-- What touches none of these pieces keeps the ranges. -/
theorem Touches.ranges (h : Touches l s t) (hl : ∀ p ∈ rangePieces, p ∉ l) (hs : PartRanges s) : PartRanges t := by
  obtain ⟨htrx, -⟩ := h .trunk (hl _ (by decide))
  have haddress : t.address = s.address := h .address (hl _ (by decide))
  have hlimits : t.limits = s.limits := h .limits (hl _ (by decide))
  have hcounter : t.rgu.counter = s.rgu.counter := h .counter (hl _ (by decide))
  have hsurvey : t.survey = s.survey := h .survey (hl _ (by decide))
  have hclock : t.clock = s.clock := h .clock (hl _ (by decide))
  have hcues : t.cues = s.cues := h .cues (hl _ (by decide))
  refine ⟨htrx ▸ hs.trx, haddress ▸ hs.address, hlimits ▸ hs.limits, hcounter ▸ hs.counter, hsurvey ▸ hs.survey, hclock ▸ hs.clock,
    fun i => ?_⟩
  rw [State.cue, hcues]
  exact hs.cues i

theorem PartRanges.ite {c : Prop} [Decidable c] (h : PartRanges s) (k : PartRanges t) : PartRanges (if c then s else t) := by
  split
  · exact h
  · exact k

theorem PartRanges.setTrx {x : Trx} (hs : PartRanges s) (hx : TrxSound x) : PartRanges (s.setTrx x) :=
  ⟨hx, hs.address, hs.limits, hs.counter, hs.survey, hs.clock, hs.cues⟩

theorem PartRanges.withSurvey {v : Survey} (hs : PartRanges s) (hv : SurveySound v) : PartRanges { s with survey := v } :=
  ⟨hs.trx, hs.address, hs.limits, hs.counter, hv, hs.clock, hs.cues⟩

theorem PartRanges.setCue {i : Fin 16} {x : Option Cue} (hs : PartRanges s) (hx : ∀ c ∈ x, CueLegal c) : PartRanges (s.setCue i x) := by
  refine ⟨hs.trx, hs.address, hs.limits, hs.counter, hs.survey, hs.clock, fun j => ?_⟩
  rw [State.setCue_cue]
  split
  · exact hx
  · exact hs.cues j

theorem PartRanges.send (hs : PartRanges s) (x : Sent) : PartRanges (s.send x) :=
  ⟨hs.trx, hs.address, hs.limits, hs.counter, hs.survey, hs.clock, hs.cues⟩

theorem PartRanges.raise (hs : PartRanges s) (c : Condition) : PartRanges (s.raise c) := (raise_touches c s).ranges (by decide) hs

theorem PartRanges.raiseIf (hs : PartRanges s) (b : Bool) (c : Condition) : PartRanges (s.raiseIf b c) :=
  (raiseIf_touches b c s).ranges (by decide) hs

/-! ### TRX -/

theorem satInc_le (n : Nat) : satInc n ≤ 65535 := Nat.min_le_right _ _

theorem TrxSound.hunt {x : Trx} (h : TrxSound x) (b : Fin 1008) : TrxSound { x with link := .hunt, goodRun := 0, boundary := b } :=
  ⟨Nat.zero_le _, h.errors, h.headers, fun hb => ⟨rfl, rfl, (h.broken hb).2.2⟩⟩

/-- No break is received in SYNC. -/
theorem TrxSound.unbroken {x : Trx} (h : TrxSound x) (hl : x.link = .sync) : x.brk.isSome = false := by
  rw [← Bool.not_eq_true]
  intro hb
  rw [(h.broken hb).1] at hl
  cases hl

theorem hunting_unbroken (h : hunting s = true) : s.trx.link = .hunt ∧ s.trx.brk = none := by
  simpa [hunting] using h

theorem enterHunt_ranges (hs : PartRanges s) : PartRanges (enterHunt s) :=
  ⟨hs.trx.hunt _, hs.address, hs.limits, hs.counter, hs.survey, hs.clock, hs.cues⟩

theorem goodCell_ranges (hs : PartRanges s) : PartRanges s.goodCell :=
  hs.setTrx ⟨hs.trx.run, Nat.zero_le _, hs.trx.headers, fun hb => ⟨(hs.trx.broken hb).1, (hs.trx.broken hb).2.1, rfl⟩⟩

theorem noCell_ranges (hs : PartRanges s) : PartRanges s.noCell := .ite hs (hs.send _)

/-- Fewer than four failed headers in a row have been counted while TRX is in SYNC. -/
theorem failedHeader_ranges (hs : PartRanges s) (sync : s.trx.link = .sync) : PartRanges (failedHeader s) := by
  have unbroken := hs.trx.unbroken sync
  have counted (n : Nat) (hn : n ≤ 4) :
      PartRanges (s.setTrx { s.trx with headerErrors := satInc s.trx.headerErrors, consecErrors := n }) :=
    hs.setTrx ⟨hs.trx.run, hn, satInc_le _, fun hb => by rw [unbroken] at hb; cases hb⟩
  unfold failedHeader
  simp only
  split
  · exact (enterHunt_ranges (s := ((s.setTrx _).raise .linkError).send .fill |>.setTrx _)
      ((counted 0 (Nat.zero_le _)).raise .linkError |>.send .fill)).raise .linkResync
  · rename_i few
    exact ((counted _ (Nat.le_of_lt (Nat.not_le.1 few))).raise _).send _

theorem goodInHunt_ranges (hs : PartRanges s) (hh : hunting s = true) : PartRanges (goodInHunt s) := by
  have unbroken := (hunting_unbroken hh).2
  unfold goodInHunt
  split
  · exact hs.setTrx ⟨Nat.le_refl _, Nat.zero_le _, hs.trx.headers, fun hb => by simp [unbroken] at hb⟩
  · rename_i few
    exact hs.setTrx ⟨by simp only; omega, hs.trx.errors, hs.trx.headers, fun hb => by simp [unbroken] at hb⟩

theorem failedInHunt_ranges (hs : PartRanges s) : PartRanges (failedInHunt s) :=
  hs.setTrx ⟨Nat.zero_le _, hs.trx.errors, hs.trx.headers, fun hb => ⟨(hs.trx.broken hb).1, rfl, (hs.trx.broken hb).2.2⟩⟩

/-- What FWD holds is not bounded. -/
theorem fwd_ranges (x : Fwd) (hs : PartRanges s) : PartRanges { s with fwd := x } :=
  ⟨hs.trx, hs.address, hs.limits, hs.counter, hs.survey, hs.clock, hs.cues⟩

theorem loseSignal_ranges (hs : PartRanges s) : PartRanges (loseSignal s) :=
  (fwd_ranges _ (hs.setTrx (x := { s.trx with link := .down, brk := none })
    ⟨hs.trx.run, hs.trx.errors, hs.trx.headers, fun hb => by cases hb⟩)).raiseIf _ _

theorem beginBreak_ranges (hs : PartRanges s) : PartRanges (beginBreak s) :=
  fwd_ranges _ (hs.setTrx ⟨Nat.zero_le _, Nat.zero_le _, hs.trx.headers, fun _ => ⟨rfl, rfl, rfl⟩⟩)

theorem endBreak_ranges (hs : PartRanges s) : PartRanges (endBreak s) :=
  ((enterHunt_ranges (hs.setTrx (x := { s.trx with brk := none })
    ⟨hs.trx.run, hs.trx.errors, hs.trx.headers, fun hb => by cases hb⟩)).send .fill).raiseIf _ _

theorem surveySound_reset : SurveySound Survey.reset := by
  refine ⟨Nat.zero_le _, (nomatch ·), fun src => ?_⟩
  simp [Survey.reset, SurveyRecord.cleared]

theorem takeChainBreak_ranges {b : Break} (hs : PartRanges s) (hb : s.trx.brk = some b) : PartRanges (takeChainBreak b s) := by
  have hunt := (hs.trx.broken (by rw [hb]; rfl)).1
  have taken : PartRanges { s.setTrx { s.trx with goodRun := 0, consecErrors := 0, brk := some { b with long := true } } with
      address := none, survey := Survey.reset } :=
    ⟨⟨Nat.zero_le _, Nat.zero_le _, hs.trx.headers, fun _ => ⟨hunt, rfl, rfl⟩⟩, (fun _ ha => nomatch ha), hs.limits, hs.counter,
      surveySound_reset, hs.clock, hs.cues⟩
  exact taken.raise _

theorem chainBreakStep_ranges (hs : PartRanges s) : PartRanges (chainBreakStep s) := by
  have begun : PartRanges (if s.trx.brk.isSome then s else beginBreak s) := .ite hs (beginBreak_ranges hs)
  unfold chainBreakStep
  simp only
  split
  · rename_i b hb
    exact .ite begun (takeChainBreak_ranges begun hb)
  · exact begun

theorem takeEnum_ranges (next : Byte) (hs : PartRanges s) : PartRanges (takeEnum next s) := by
  unfold takeEnum
  split
  · rename_i h
    have assigned : PartRanges { s with address := some next } :=
      ⟨hs.trx, fun a ha => Option.some.inj ha ▸ h.2, hs.limits, hs.counter, hs.survey, hs.clock, hs.cues⟩
    exact assigned.send _
  · exact hs.send _

/-! ### SVU -/

theorem surveyCell_ranges {src : Fin 16} {g : SurveyRecord → SurveyRecord}
    (hg : ∀ r : SurveyRecord, r.pics ≤ 65535 ∧ r.opens ≤ 65535 → (g r).pics ≤ 65535 ∧ (g r).opens ≤ 65535) (hs : PartRanges s) :
    PartRanges (surveyCell src g s) := by
  refine .ite (hs.withSurvey ⟨hs.survey.left, hs.survey.running, fun src' => ?_⟩) hs
  rw [tget_tset]
  split
  · exact hg _ (hs.survey.records src)
  · exact hs.survey.records src'

theorem sawOpen_bounded (width height : Nat) (tag : Byte) (r : SurveyRecord) (h : r.pics ≤ 65535 ∧ r.opens ≤ 65535) :
    (r.sawOpen width height tag).pics ≤ 65535 ∧ (r.sawOpen width height tag).opens ≤ 65535 := ⟨h.1, satInc_le _⟩

theorem sawPic_bounded (r : SurveyRecord) (h : r.pics ≤ 65535 ∧ r.opens ≤ 65535) : r.sawPic.pics ≤ 65535 ∧ r.sawPic.opens ≤ 65535 :=
  ⟨satInc_le _, h.2⟩

theorem surveyCount_sound {v : Survey} (h : SurveySound v) : SurveySound (surveyCount v) := by
  have left := h.left
  unfold surveyCount
  split
  · refine ⟨by simp only; omega, fun hr => ?_, h.records⟩
    simp only at hr ⊢
    split at hr
    · cases hr
    · omega
  · exact h

theorem surveyAnswer_ranges (frames : Byte) (hs : PartRanges s) : PartRanges (surveyAnswer frames s).state := by
  unfold surveyAnswer
  split
  · exact hs
  · rename_i n hn
    obtain ⟨⟨hlo, hhi⟩, rfl⟩ := readRange_eq_some.1 hn
    split
    · exact hs
    · exact hs.withSurvey ⟨hhi, fun _ => hlo, fun src => by simp [SurveyRecord.cleared]⟩

/-! ### STM's limits, CUE -/

theorem silenceAnswer_ranges (hold : Byte) (loss : Half) (hs : PartRanges s) : PartRanges (silenceAnswer hold loss s).state := by
  unfold silenceAnswer
  split
  · rename_i h l hh hl
    obtain ⟨⟨_, _⟩, rfl⟩ := readRange_eq_some.1 hh
    obtain ⟨⟨_, _⟩, rfl⟩ := readRange_eq_some.1 hl
    split
    · exact ⟨hs.trx, hs.address, ⟨‹_›, ‹_›, ‹_›, ‹_›⟩, hs.counter, hs.survey, hs.clock, hs.cues⟩
    · exact hs
  · exact hs

theorem readClock_legal {weekday hour minute second frame : Byte} {c : Clock} (h : readClock weekday hour minute second frame = some c) :
    ClockLegal c := by
  simp only [readClock, Option.bind_eq_bind, Option.bind_eq_some_iff, Option.some.injEq, readRange_eq_some] at h
  obtain ⟨_, ⟨hw, rfl⟩, _, ⟨hh, rfl⟩, _, ⟨hm, rfl⟩, _, ⟨hs, rfl⟩, _, ⟨hf, rfl⟩, rfl⟩ := h
  exact ⟨hw.2, hh.2, hm.2, hs.2, hf.2⟩

/-- An optional field that is read as a value in a range is absent or in that range. -/
theorem readOptional_bounded {p : Bool} {hi v : Nat} {x : Option Nat} (h : readOptional p (readRange 0 hi v) = some x) :
    ∀ y ∈ x, y ≤ hi := by
  rintro y rfl
  cases p with
  | false => simp [readOptional] at h
  | true =>
    simp only [readOptional, if_true, Option.map_eq_some_iff, readRange_eq_some] at h
    obtain ⟨_, ⟨hv, rfl⟩, e⟩ := h
    cases e
    exact hv.2

theorem readCue_legal {raw : RawCue} {c : Cue} (h : readCue raw = some c) : CueLegal c := by
  simp only [readCue, Option.bind_eq_bind, Option.bind_eq_some_iff, Option.some.injEq] at h
  obtain ⟨_, hw, _, hh, _, hm, _, hs, _, hf, _, -, _, -, rfl⟩ := h
  exact ⟨readOptional_bounded hw, readOptional_bounded hh, readOptional_bounded hm, readOptional_bounded hs, readOptional_bounded hf⟩

theorem cuesetAnswer_ranges (entry : Byte) (raw : RawCue) (hs : PartRanges s) : PartRanges (cuesetAnswer entry raw s).state := by
  unfold cuesetAnswer
  split
  · rename_i hx
    exact hs.setCue fun c hc => Option.some.inj hc ▸ readCue_legal hx
  · exact hs

theorem cuedropAnswer_ranges (entry : Byte) (hs : PartRanges s) : PartRanges (cuedropAnswer entry s).state := by
  unfold cuedropAnswer
  split
  · exact hs.setCue fun _ hc => nomatch hc
  · exact hs

theorem evaluated_legal {c x : Cue} {now : Clock} (h : c.evaluated now = some x) (hc : CueLegal c) : CueLegal x := by
  unfold Cue.evaluated at h
  split at h <;> cases h
  exact hc

theorem evaluateCue_ranges (now : Clock) (i : Fin 16) (hs : PartRanges s) : PartRanges (evaluateCue now s i) := by
  unfold evaluateCue
  split
  · exact hs
  · rename_i c hc
    have legal := hs.cues i c hc
    exact (PartRanges.ite (((takeAction_touches _ s).ranges (by decide) hs).raise _) hs).setCue fun x hx => evaluated_legal hx legal

theorem takeTimebase_ranges (weekday hour minute second frame : Byte) (hs : PartRanges s) :
    PartRanges (takeTimebase weekday hour minute second frame s) := by
  unfold takeTimebase
  split
  · exact hs
  · rename_i now hnow
    have set : PartRanges { s with clock := some now } :=
      ⟨hs.trx, hs.address, hs.limits, hs.counter, hs.survey, fun c hc => Option.some.inj hc ▸ readClock_legal hnow, hs.cues⟩
    exact foldl_keeps (fun s i h => evaluateCue_ranges now i h) _ set

/-! ### Picture cells and the output frame end -/

theorem takeOpen_ranges (source tag : Byte) (width height cells : Half) (tick : Nat) (hs : PartRanges s) :
    PartRanges (takeOpen source tag width height cells tick s) := by
  have reached := (reachTick_touches tick s).ranges (by decide) hs
  unfold takeOpen
  simp only
  split
  · exact reached
  · exact (forStore_touches (fun i s => storeOpen_touches i tag width.toNat height.toNat cells.toNat s) _).ranges (by decide)
      ((capture_touches _ _).ranges (by decide) (surveyCell_ranges (sawOpen_bounded _ _ _) reached))

theorem takePic_ranges (source tag : Byte) (sequence line first : Half) (count : Byte) (pixels : List Word) (hs : PartRanges s) :
    PartRanges (takePic source tag sequence line first count pixels s) := by
  unfold takePic
  split
  · exact hs
  · exact (forStore_touches (fun i s => storePic_touches i tag sequence.toNat line.toNat first.toNat count.toNat _ s) _).ranges (by decide)
      (surveyCell_ranges sawPic_bounded hs)

theorem takeClose_ranges (source tag : Byte) (cells : Half) (hs : PartRanges s) : PartRanges (takeClose source tag cells s) := by
  unfold takeClose
  split
  · exact hs
  · exact (forStore_touches (fun i s => storeClose_touches i tag cells.toNat s) _).ranges (by decide) hs

theorem countPart_ranges (hs : PartRanges s) : PartRanges (countPart s) :=
  ⟨hs.trx, hs.address, hs.limits, Nat.le_of_lt_succ (Nat.mod_lt _ (by decide)), hs.survey, hs.clock, hs.cues⟩

theorem framePart_ranges (x : FrameEndPart) (hs : PartRanges s) : PartRanges (framePart x s) := by
  cases x with
  | survey => exact .ite hs (hs.withSurvey (surveyCount_sound hs.survey))
  | count => exact countPart_ranges hs
  | silence | selection | swap | transitions | lists | freezes | raster | genlock =>
    exact (framePart_touches _ s).ranges (by decide) hs

theorem frameEnd_ranges (order : List FrameEndPart) (hs : PartRanges s) : PartRanges (frameEnd order s) :=
  (closeFrame_touches _).ranges (by decide) (foldl_keeps (fun _ x h => framePart_ranges x h) _ hs)

/-! ### Every command -/

theorem reset_ranges : PartRanges State.reset := by
  obtain ⟨run, errors, headers, broken, address⟩ := reset_trunk
  obtain ⟨limits, -, counter, left, running, records⟩ := reset_counters
  exact ⟨⟨run, errors, headers, broken⟩, address, limits, counter, ⟨left, running, records⟩, reset_cues.1, reset_cues.2⟩

/-- RESTART leaves the receiver, but for the count of failed headers, and the address as they are. -/
theorem restarted_ranges (hs : PartRanges s) : PartRanges (restarted s) :=
  have r := reset_ranges
  ⟨⟨hs.trx.run, hs.trx.errors, Nat.zero_le _, hs.trx.broken⟩, hs.address, r.limits, r.counter, r.survey, r.clock, r.cues⟩

theorem onCell_ranges {act : State → State} (ha : ∀ s, PartRanges s → PartRanges (act s)) (e : onCell act s = .next t)
    (hs : PartRanges s) : PartRanges t := by
  cases e
  exact .ite (ha _ (goodCell_ranges hs)) (noCell_ranges hs)

theorem onForwarded_ranges {act : State → State} (ha : ∀ s, PartRanges s → PartRanges (act s)) (e : onForwarded act s = .next t)
    (hs : PartRanges s) : PartRanges t := onCell_ranges (fun s h => (ha s h).send _) e hs

theorem onRequest_ranges {q : ReqHead} {code : Byte} {own : State → Answer} {all : State → State}
    (ho : ∀ s, PartRanges s → PartRanges (own s).state) (ha : ∀ s, PartRanges s → PartRanges (all s))
    (e : onRequest q code own all s = .next t) (hs : PartRanges s) : PartRanges t :=
  onCell_ranges (fun s h => .ite ((ha s h).send _) (.ite ((ho s h).send _) (h.send _))) e hs

/-- A request that touches none of the pieces of the ranges. -/
theorem request_ranges {q : ReqHead} {code : Byte} {own : State → Answer} {all : State → State}
    (ho : ∀ s, Touches l s (own s).state) (hl : ∀ p ∈ rangePieces, p ∉ l) (ha : ∀ s, Touches l s (all s))
    (e : onRequest q code own all s = .next t) (hs : PartRanges s) : PartRanges t :=
  onRequest_ranges (fun s => (ho s).ranges hl) (fun s => (ha s).ranges hl) e hs

theorem addressed_ranges {q : ReqHead} {code : Byte} {own : State → Answer} (ho : ∀ s, Touches l s (own s).state)
    (hl : ∀ p ∈ rangePieces, p ∉ l) (e : onAddressed q code own s = .next t) (hs : PartRanges s) : PartRanges t :=
  request_ranges ho hl (fun s => .refl l s) e hs

theorem either_ranges {q : ReqHead} {code : Byte} {own : State → Answer} (ho : ∀ s, Touches l s (own s).state)
    (hl : ∀ p ∈ rangePieces, p ∉ l) (e : onEither q code own s = .next t) (hs : PartRanges s) : PartRanges t :=
  request_ranges ho hl ho e hs

/-- An event that comes about where its trigger holds. -/
theorem event_ranges {c : Prop} [Decidable c] {u : State} (h : Touches l s u) (hl : ∀ p ∈ rangePieces, p ∉ l)
    (e : (Host.Outcome.next (if c then u else s) : Result) = .next t) (hs : PartRanges s) : PartRanges t := by
  cases e
  exact .ite (h.ranges hl hs) hs

/-- Every command keeps the ranges. -/
theorem exec_ranges {c : Instr} (e : exec c s = .next t) (hs : PartRanges s) : PartRanges t := by
  cases c with
  | ident q => exact addressed_ranges (own := fun s => ⟨s, .done, identResult s, none⟩) (fun s => .refl [] s) (by decide) e hs
  | status q page => exact addressed_ranges (statusAnswer_touches page) (by decide) e hs
  | clear q mask => exact either_ranges (clearAnswer_touches mask) (by decide) e hs
  | raster q aw ah tw th bg => exact either_ranges (rasterAnswer_touches aw ah tw th bg) (by decide) e hs
  | outmode q mask mode => exact either_ranges (outmodeAnswer_touches mask mode) (by decide) e hs
  | silence q hold loss =>
    exact onRequest_ranges (fun _ => silenceAnswer_ranges hold loss) (fun _ => silenceAnswer_ranges hold loss) e hs
  | subscribe q store source => exact addressed_ranges (subscribeAnswer_touches store source) (by decide) e hs
  | release q store => exact addressed_ranges (releaseAnswer_touches store) (by decide) e hs
  | winset q output raw => exact addressed_ranges (winsetAnswer_touches output raw) (by decide) e hs
  | windrop q output window => exact addressed_ranges (windropAnswer_touches output window) (by decide) e hs
  | winmove q output window target => exact addressed_ranges (winmoveAnswer_touches output window target) (by decide) e hs
  | winread q output window bank => exact addressed_ranges (winreadAnswer_touches output window bank) (by decide) e hs
  | discard q output => exact addressed_ranges (discardAnswer_touches output) (by decide) e hs
  | commit q mask => exact either_ranges (commitAnswer_touches mask) (by decide) e hs
  | presave q output preset => exact addressed_ranges (presaveAnswer_touches output preset) (by decide) e hs
  | take q output window kind value style duration =>
    exact addressed_ranges (takeAnswer_touches output window kind value style duration) (by decide) e hs
  | freezeNow q output window kind => exact addressed_ranges (freezeNowAnswer_touches output window kind) (by decide) e hs
  | freezeAt q output window tag => exact addressed_ranges (freezeAtAnswer_touches output window tag) (by decide) e hs
  | thaw q output window => exact addressed_ranges (thawAnswer_touches output window) (by decide) e hs
  | rotset q list count entries dwell style duration =>
    exact either_ranges (rotsetAnswer_touches list count entries dwell style duration) (by decide) e hs
  | cueset q entry raw => exact onRequest_ranges (fun _ => cuesetAnswer_ranges entry raw) (fun _ => cuesetAnswer_ranges entry raw) e hs
  | cuedrop q entry => exact onRequest_ranges (fun _ => cuedropAnswer_ranges entry) (fun _ => cuedropAnswer_ranges entry) e hs
  | genlock q source => exact either_ranges (genlockAnswer_touches source) (by decide) e hs
  | survey q frames => exact onRequest_ranges (fun _ => surveyAnswer_ranges frames) (fun _ h => h) e hs
  | surveyread q source => exact addressed_ranges (surveyreadAnswer_touches source) (by decide) e hs
  | restart q => exact onRequest_ranges (fun _ => restarted_ranges) (fun _ => restarted_ranges) e hs
  | unknownRequest q code => exact addressed_ranges (own := fun s => refuse s .unknown) (fun s => .refl [] s) (by decide) e hs
  | frameOpen source tag width height cells tick =>
    exact onForwarded_ranges (fun _ => takeOpen_ranges source tag width height cells tick) e hs
  | pic source tag sequence line first count pixels =>
    exact onForwarded_ranges (fun _ => takePic_ranges source tag sequence line first count pixels) e hs
  | frameClose source tag cells => exact onForwarded_ranges (fun _ => takeClose_ranges source tag cells) e hs
  | timebase weekday hour minute second frame =>
    exact onForwarded_ranges (fun _ => takeTimebase_ranges weekday hour minute second frame) e hs
  | enumCell next => exact onCell_ranges (fun _ => takeEnum_ranges next) e hs
  | forwardCell kind => exact onForwarded_ranges (fun _ h => h) e hs
  | headerError =>
    cases e
    split
    · exact failedHeader_ranges hs ‹_›
    · exact noCell_ranges hs
  | huntHeaderCheck header check =>
    cases e
    split
    · exact (PartRanges.ite (goodInHunt_ranges hs ‹_›) (failedInHunt_ranges hs)).send _
    · exact hs
  | syncReached =>
    cases e
    split
    · rename_i h
      exact (goodInHunt_ranges hs h.1).send _
    · exact hs
  | linkHunt =>
    cases e
    split
    · rename_i h
      exact failedHeader_ranges hs h.1
    · exact hs
  | lossOfSignal => cases e; exact .ite hs (loseSignal_ranges hs)
  | signalReceived => cases e; exact .ite ((enterHunt_ranges hs).send _) hs
  | breakStart => cases e; exact .ite hs (beginBreak_ranges hs)
  | breakEnd => cases e; exact .ite (endBreak_ranges hs) hs
  | chainBreak => cases e; exact chainBreakStep_ranges hs
  | powerOn =>
    cases e
    have r := reset_ranges
    exact ⟨r.trx, r.address, r.limits, r.counter, r.survey, r.clock, r.cues⟩
  | powerOnFillEnd => exact event_ranges (frameStart_touches s) (by decide) e hs
  | outputFrameEnd order => cases e; exact .ite (frameEnd_ranges order hs) hs
  | outputFrameStart => exact event_ranges (frameStart_touches s) (by decide) e hs
  | picWrite => cases e; exact (picWriteStep_touches s).ranges (by decide) hs
  | completion => cases e; exact (completionStep_touches s).ranges (by decide) hs
  | listAdvance r =>
    exact event_ranges (.after (mark_other_touches FrameEndMark.noConfusion _).any (advanceList_touches r s)) (by decide) e hs
  | transitionEnd o w =>
    exact event_ranges (.after (mark_other_touches FrameEndMark.noConfusion _) (setTransition_touches _ _ _ s)) (by decide) e hs
  | sourceStale i => cases e; exact (silenceMove_touches i _ _ s).ranges (by decide) hs
  | sourceLost i => cases e; exact (silenceMove_touches i _ _ s).ranges (by decide) hs
  | surveyDone =>
    cases e
    exact .ite ((mark_touches _ _).ranges (by decide) (hs.withSurvey (surveyCount_sound hs.survey))) hs
  | genlockTrack => cases e; exact (genlockMove_touches _ _ s).ranges (by decide) hs
  | genlockLocked => cases e; exact (genlockMove_touches _ _ s).ranges (by decide) hs
  | genlockUnlocked => cases e; exact (genlockMove_touches _ _ s).ranges (by decide) hs
  -- RECALL is left, whose name Mathlib has made a keyword.
  | _ => exact request_ranges (recallAnswer_touches _ _) (by decide) (recallAll_touches _ _) e hs

end Sys2Proof.Proofs
end

section
/-! PROOFS. The stores' counters stay in range (R48, R66, R70), and with them every range (R129, R139, R144, R149, R151). -/

namespace Sys2Proof.Proofs

open Sys2Proof.Machine Sys2Proof.Claims Sys2Proof.Safety

variable {s t : State} {x : Store} {i : Fin 8}

/-- A store's part of `CountersLegal`. -/
structure CountsSound (x : Store) : Prop where
  silence : x.silence ≤ 4095
  completed : x.completed ≤ 65535
  dropped : x.dropped ≤ 65535
  damaged : x.damaged ≤ 65535
  stray : x.stray ≤ 65535

/-- Every store's counters are in range. -/
def StoreCounts (s : State) : Prop := ∀ i : Fin 8, CountsSound (s.store i)

theorem StoresAlike.counts (h : StoresAlike s t) (hs : StoreCounts s) : StoreCounts t := by
  intro i
  have same {α : Type} (g : Store → α) (hg : ∀ st, g (unpinned st) = g st) : g (t.store i) = g (s.store i) := by
    rw [← hg, h.stores, hg]
  obtain ⟨h1, h2, h3, h4, h5⟩ := hs i
  rw [← same (·.silence) fun _ => rfl] at h1
  rw [← same (·.completed) fun _ => rfl] at h2
  rw [← same (·.dropped) fun _ => rfl] at h3
  rw [← same (·.damaged) fun _ => rfl] at h4
  rw [← same (·.stray) fun _ => rfl] at h5
  exact ⟨h1, h2, h3, h4, h5⟩

theorem StoreCounts.setStore (hs : StoreCounts s) (hx : CountsSound x) : StoreCounts (s.setStore i x) := by
  intro j
  rw [State.setStore_store]
  split
  · exact hx
  · exact hs j

theorem StoreCounts.ite {c : Prop} [Decidable c] (h : StoreCounts s) (k : StoreCounts t) : StoreCounts (if c then s else t) := by
  split
  · exact h
  · exact k

/-- The stores stay. -/
theorem StoreCounts.same (hs : StoreCounts s) (h : t.stores = s.stores) : StoreCounts t := by
  intro i
  rw [State.store, h]
  exact hs i

/-! ### Picture cells -/

theorem damageFrame_counts (k : Fin 3) (hs : StoreCounts s) : StoreCounts (damageFrame i k s) :=
  (raise_alike _ _).counts (hs.setStore ⟨(hs i).silence, (hs i).completed, (hs i).dropped, satInc_le _, (hs i).stray⟩)

theorem strayCell_counts (hs : StoreCounts s) : StoreCounts (s.setStore i (s.store i).strayCell) :=
  hs.setStore ⟨(hs i).silence, (hs i).completed, (hs i).dropped, (hs i).damaged, satInc_le _⟩

theorem arrival_counts (hs : StoreCounts s) : StoreCounts (s.setStore i (s.store i).arrival) :=
  hs.setStore ⟨Nat.zero_le _, (hs i).completed, (hs i).dropped, (hs i).damaged, (hs i).stray⟩

/-- A slot is written, and no counter. -/
theorem CountsSound.setSlot (h : CountsSound x) (k : Fin 3) (r : SlotRecord) : CountsSound (x.setSlot k r) :=
  ⟨h.silence, h.completed, h.dropped, h.damaged, h.stray⟩

theorem CountsSound.dropFrame (h : CountsSound x) : CountsSound x.dropFrame :=
  ⟨h.silence, h.completed, satInc_le _, h.damaged, h.stray⟩

theorem matchPic_counts (tag : Byte) (sequence line first : Nat) (px : List Colour) (hs : StoreCounts s) :
    StoreCounts (matchPic i tag sequence line first px s) := by
  unfold matchPic
  split
  · exact strayCell_counts hs
  · exact .ite (damageFrame_counts _ hs) (.ite ((raise_alike _ _).counts (damageFrame_counts _ hs))
      ((hs.setStore ((hs i).setSlot _ _)).same rfl))

theorem storePic_counts (tag : Byte) (sequence line first count : Nat) (px : List Colour) (hs : StoreCounts s) :
    StoreCounts (storePic i tag sequence line first count px s) :=
  .ite (arrival_counts hs) (.ite (matchPic_counts _ _ _ _ _ (arrival_counts hs)) (strayCell_counts (arrival_counts hs)))

theorem matchClose_counts (tag : Byte) (cells : Nat) (hs : StoreCounts s) : StoreCounts (matchClose i tag cells s) := by
  unfold matchClose
  split
  · exact strayCell_counts hs
  · exact .ite (damageFrame_counts _ hs) (.ite ((raise_alike _ _).counts (damageFrame_counts _ hs))
      ((hs.setStore ((hs i).setSlot _ _)).same rfl))

theorem storeClose_counts (tag : Byte) (cells : Nat) (hs : StoreCounts s) : StoreCounts (storeClose i tag cells s) :=
  .ite (arrival_counts hs) (matchClose_counts _ _ (arrival_counts hs))

theorem endUnclosed_counts (hs : StoreCounts s) : StoreCounts (endUnclosed i s) := by
  unfold endUnclosed
  split
  · exact damageFrame_counts _ hs
  · exact hs

theorem clearDropping_counts (hs : StoreCounts s) : StoreCounts (clearDropping i s) :=
  hs.setStore ⟨(hs i).silence, (hs i).completed, (hs i).dropped, (hs i).damaged, (hs i).stray⟩

theorem chooseSlot_counts (tag : Byte) (width height cells : Nat) (hs : StoreCounts s) :
    StoreCounts (chooseSlot i tag width height cells s) := by
  have dropped := (hs i).dropFrame
  unfold chooseSlot
  simp only
  split
  · refine (raiseIf_alike _ _ _).counts (hs.setStore (CountsSound.setSlot ?_ _ _))
    split
    · exact dropped
    · exact hs i
  · exact (raise_alike _ _).counts (hs.setStore ⟨dropped.silence, dropped.completed, dropped.dropped, dropped.damaged, dropped.stray⟩)

theorem storeOpen_counts (tag : Byte) (width height cells : Nat) (hs : StoreCounts s) :
    StoreCounts (storeOpen i tag width height cells s) :=
  .ite (chooseSlot_counts _ _ _ _ (clearDropping_counts (endUnclosed_counts (arrival_counts hs)))) (strayCell_counts (arrival_counts hs))

theorem forStore_counts {src : Fin 16} {act : Fin 8 → State → State} (h : ∀ i, StoreCounts s → StoreCounts (act i s))
    (hs : StoreCounts s) : StoreCounts (forStore src act s) := by
  unfold forStore
  split
  · exact hs
  · exact h _ hs

theorem takeOpen_counts (source tag : Byte) (width height cells : Half) (tick : Nat) (hs : StoreCounts s) :
    StoreCounts (takeOpen source tag width height cells tick s) := by
  have reached := (reachTick_alike tick s).counts hs
  unfold takeOpen
  simp only
  split
  · exact reached
  · exact forStore_counts (fun i => storeOpen_counts _ _ _ _) ((capture_alike _ _).counts ((surveyCell_alike _ _ _).counts reached))

theorem takePic_counts (source tag : Byte) (sequence line first : Half) (count : Byte) (pixels : List Word) (hs : StoreCounts s) :
    StoreCounts (takePic source tag sequence line first count pixels s) := by
  unfold takePic
  split
  · exact hs
  · exact forStore_counts (fun i => storePic_counts _ _ _ _ _ _) ((surveyCell_alike _ _ _).counts hs)

theorem takeClose_counts (source tag : Byte) (cells : Half) (hs : StoreCounts s) : StoreCounts (takeClose source tag cells s) := by
  unfold takeClose
  split
  · exact hs
  · exact forStore_counts (fun i => storeClose_counts _ _) hs

theorem ready_counts (h : CountsSound x) : CountsSound x.readyToComplete := by
  unfold Store.readyToComplete
  split
  · exact ⟨h.silence, h.completed, h.dropped, h.damaged, h.stray⟩
  · exact h

theorem completionStep_counts (hs : StoreCounts s) : StoreCounts (completionStep s) := by
  have served := (serveFetches_alike s).counts hs
  unfold completionStep
  simp only
  split
  · rename_i i k rest _ _
    have granted : StoreCounts (grantHead rest (serveFetches s)) := served.same rfl
    unfold completeSlot
    split
    · refine .ite (granted.setStore ?_) granted
      obtain ⟨h1, -, h3, h4, h5⟩ := ready_counts (granted i)
      exact ⟨h1, satInc_le _, h3, h4, h5⟩
    · exact granted
  · exact hs

theorem picWriteStep_counts (hs : StoreCounts s) : StoreCounts (picWriteStep s) := by
  have served := (serveFetches_alike s).counts hs
  unfold picWriteStep
  simp only
  split
  · exact served.same rfl
  · exact hs

/-! ### The output frame end -/

/-- The silence counter does not pass the loss limit (R66). -/
theorem silenceNext_le (loss silence : Nat) : silenceNext loss silence ≤ loss := by
  unfold silenceNext
  split <;> omega

theorem countSilence_counts (i : Fin 8) (hl : s.limits.loss ≤ 4095) (hs : StoreCounts s) : StoreCounts (countSilence i s) := by
  simp only [countSilence]
  split
  · exact hs
  · have counted (a : SourceState) (b b' : Bool) : StoreCounts (((s.setStore i { s.store i with
        silence := silenceNext s.limits.loss (s.store i).silence, state := a }).raiseIf b .sourceStale).raiseIf b' .sourceLost) :=
      (raiseIf_alike _ _ _).counts ((raiseIf_alike _ _ _).counts (hs.setStore
        ⟨(silenceNext_le _ _).trans hl, (hs i).completed, (hs i).dropped, (hs i).damaged, (hs i).stray⟩))
    exact .ite ((leaveLive_alike _ _).counts (counted _ _ _)) (counted _ _ _)

theorem selectStore_counts (i : Fin 8) (hs : StoreCounts s) : StoreCounts (selectStore i s) :=
  .ite (hs.setStore ⟨(hs i).silence, (hs i).completed, (hs i).dropped, (hs i).damaged, (hs i).stray⟩) hs

theorem takeArmed_counts (o : Fin 4) (w : Fin 8) (hs : StoreCounts s) : StoreCounts (takeArmed o w s) := by
  unfold takeArmed
  split
  · rename_i tag i _
    have selected := selectStore_counts i hs
    simp only
    split
    · exact selected
    · refine .ite ?_ selected
      split
      · exact (takeFreeze_alike _ _ _ _ _ _).counts selected
      · exact (takeFreeze_alike _ _ _ _ _ _).counts selected
      · exact selected
  · exact hs

/-- The parts of an output frame end leave the limits. -/
theorem framePart_counts (x : FrameEndPart) (h : s.limits.loss ≤ 4095 ∧ StoreCounts s) :
    (framePart x s).limits.loss ≤ 4095 ∧ StoreCounts (framePart x s) := by
  have limits (x : FrameEndPart) : (framePart x s).limits = s.limits := (framePart_touches x s) .limits (by cases x <;> decide)
  refine ⟨(limits x).symm ▸ h.1, ?_⟩
  obtain ⟨hl, hs⟩ := h
  cases x with
  | silence =>
    have both : (silencePart s).limits.loss ≤ 4095 ∧ StoreCounts (silencePart s) := by
      refine foldl_keeps (P := fun s => s.limits.loss ≤ 4095 ∧ StoreCounts s) (fun s i h => ?_) _ ⟨hl, hs⟩
      split
      · exact h
      · have same : (countSilence i s).limits = s.limits := (countSilence_touches i s) .limits (by decide)
        exact ⟨same.symm ▸ h.1, countSilence_counts i h.1 h.2⟩
    exact both.2
  | selection => exact foldl_keeps (fun s i h => selectStore_counts i h) _ hs
  | freezes =>
    rw [framePart, freezePart]
    generalize allWindows = windows
    exact foldl_keeps (P := StoreCounts) (fun s ow h => takeArmed_counts ow.1 ow.2 h) windows hs
  | swap | transitions | lists | survey | count | raster | genlock => exact (framePart_alike (by simp) s).counts hs

theorem frameEnd_counts (order : List FrameEndPart) (hl : s.limits.loss ≤ 4095) (hs : StoreCounts s) : StoreCounts (frameEnd order s) := by
  have parts : (afterParts order s).limits.loss ≤ 4095 ∧ StoreCounts (afterParts order s) :=
    foldl_keeps (P := fun s => s.limits.loss ≤ 4095 ∧ StoreCounts s) (fun s x h => framePart_counts x h) _ ⟨hl, hs⟩
  exact parts.2.same rfl

theorem silenceMove_counts (before : List SourceState) (after : SourceState) (hl : s.limits.loss ≤ 4095) (hs : StoreCounts s) :
    StoreCounts (silenceMove i before after s) := .ite ((mark_alike _ _).counts (countSilence_counts i hl hs)) hs

/-! ### SUBSCRIBE, RELEASE and the resets -/

theorem endBinding_counts (i : Fin 8) (hs : StoreCounts s) : StoreCounts (endBinding i s) := hs.same (endBinding_stores i s)

theorem subscribeAnswer_counts (store source : Byte) (hs : StoreCounts s) : StoreCounts (subscribeAnswer store source s).state := by
  unfold subscribeAnswer
  split
  · split
    · exact hs
    · split
      · exact hs
      · refine (endBinding_counts _ hs).setStore ⟨?_, ?_, ?_, ?_, ?_⟩ <;> exact Nat.zero_le _
  · exact hs

theorem releaseAnswer_counts (store : Byte) (hs : StoreCounts s) : StoreCounts (releaseAnswer store s).state := by
  unfold releaseAnswer
  split
  · exact hs
  · rename_i i _
    split
    · exact hs
    · split
      · exact hs
      · exact (endBinding_counts _ hs).setStore ⟨Nat.zero_le _, (hs i).completed, (hs i).dropped, (hs i).damaged, (hs i).stray⟩

theorem reset_storeCounts : StoreCounts State.reset := fun i => by
  obtain ⟨h1, h2, h3, h4, h5⟩ := reset_counters.2.1 i
  exact ⟨h1, h2, h3, h4, h5⟩

theorem restarted_counts (s : State) : StoreCounts (restarted s) := reset_storeCounts.same rfl

/-! ### Every command -/

theorem onCell_counts {act : State → State} (ha : ∀ s, StoreCounts s → StoreCounts (act s)) (e : onCell act s = .next t)
    (hs : StoreCounts s) : StoreCounts t := by
  cases e
  exact .ite (ha _ ((goodCell_alike s).counts hs)) ((noCell_alike s).counts hs)

theorem onForwarded_counts {act : State → State} (ha : ∀ s, StoreCounts s → StoreCounts (act s)) (e : onForwarded act s = .next t)
    (hs : StoreCounts s) : StoreCounts t := onCell_counts (fun s h => (send_alike _ _).counts (ha s h)) e hs

theorem onRequest_counts {q : ReqHead} {code : Byte} {own : State → Answer} {all : State → State}
    (ho : ∀ s, StoreCounts s → StoreCounts (own s).state) (ha : ∀ s, StoreCounts s → StoreCounts (all s))
    (e : onRequest q code own all s = .next t) (hs : StoreCounts s) : StoreCounts t :=
  onCell_counts (fun s h => .ite ((send_alike _ _).counts (ha s h))
    (.ite ((send_alike _ _).counts (ho s h)) ((send_alike _ _).counts h))) e hs

/-- Every command keeps the stores' counters in range, given that the loss limit is. -/
theorem exec_storeCounts {c : Instr} (e : exec c s = .next t) (hl : s.limits.loss ≤ 4095) (hs : StoreCounts s) : StoreCounts t := by
  cases c with
  | subscribe => exact onRequest_counts (fun _ h => subscribeAnswer_counts _ _ h) (fun _ h => h) e hs
  | release => exact onRequest_counts (fun _ h => releaseAnswer_counts _ h) (fun _ h => h) e hs
  | restart => exact onRequest_counts (fun s _ => restarted_counts s) (fun s _ => restarted_counts s) e hs
  | frameOpen => exact onForwarded_counts (fun _ h => takeOpen_counts _ _ _ _ _ _ h) e hs
  | pic => exact onForwarded_counts (fun _ h => takePic_counts _ _ _ _ _ _ _ h) e hs
  | frameClose => exact onForwarded_counts (fun _ h => takeClose_counts _ _ _ h) e hs
  | powerOn => cases e; exact reset_storeCounts.same rfl
  | outputFrameEnd order => cases e; exact .ite (frameEnd_counts order hl hs) hs
  | picWrite => cases e; exact picWriteStep_counts hs
  | completion => cases e; exact completionStep_counts hs
  | sourceStale => cases e; exact silenceMove_counts _ _ hl hs
  | sourceLost => cases e; exact silenceMove_counts _ _ hl hs
  -- STM takes no part in any other command.
  | _ => exact (exec_alike rfl e).counts hs

/-- The ranges are those of the stores' counters and the others. -/
theorem ranges_iff : (TrunkLegal s ∧ CountersLegal s ∧ CuesLegal s) ↔ PartRanges s ∧ StoreCounts s := by
  constructor
  · rintro ⟨⟨run, errors, headers, broken, address⟩, ⟨limits, stores, counter, left, running, records⟩, clock, cues⟩
    refine ⟨⟨⟨run, errors, headers, broken⟩, address, limits, counter, ⟨left, running, records⟩, clock, cues⟩, fun i => ?_⟩
    obtain ⟨h1, h2, h3, h4, h5⟩ := stores i
    exact ⟨h1, h2, h3, h4, h5⟩
  · rintro ⟨⟨⟨run, errors, headers, broken⟩, address, limits, counter, ⟨left, running, records⟩, clock, cues⟩, stores⟩
    exact ⟨⟨run, errors, headers, broken, address⟩, ⟨limits, fun i => ⟨(stores i).silence, (stores i).completed, (stores i).dropped,
      (stores i).damaged, (stores i).stray⟩, counter, left, running, records⟩, clock, cues⟩

/-- Settles O56: each command keeps the ranges, and a tick touches none of them. -/
theorem stepsKeepTheRanges : Obligations.StepsKeepTheRanges := by
  intro s t hs e
  rw [ranges_iff] at hs ⊢
  obtain ⟨part, stores⟩ := hs
  unfold step at e
  split at e
  · cases e
    exact ⟨(idleTick_touches s).ranges (by decide) part, (idleTick_alike s).counts stores⟩
  · rename_i c rest _
    have taken : PartRanges { s with pending := rest } :=
      ⟨part.trx, part.address, part.limits, part.counter, part.survey, part.clock, part.cues⟩
    exact ⟨exec_ranges e taken, exec_storeCounts e part.limits.2.2.2 (stores.same rfl)⟩

end Sys2Proof.Proofs
end

section
/-! PROOFS. The requests to the store manager (R49 to R51, R69), and the end of a binding in the words of the statements. -/

namespace Sys2Proof.Proofs

open Sys2Proof.Machine Sys2Proof.Claims Sys2Proof.Safety

variable {q : ReqHead} {s : State} {i : Fin 8} {src : Fin 16}

/-! ### SILENCE -/

theorem silenceAnswer_set {hold : Byte} {loss : Half}
    (h : 1 ≤ hold.toNat ∧ 2 ≤ loss.toNat ∧ loss.toNat ≤ 4095 ∧ hold.toNat < loss.toNat) (s : State) :
    silenceAnswer hold loss s = ⟨{ s with limits := ⟨hold.toNat, loss.toNat⟩ }, .done, [], none⟩ := by
  obtain ⟨hold1, loss2, loss4095, less⟩ := h
  have hhold : readRange 1 255 hold.toNat = some hold.toNat := readRange_eq_some.2 ⟨⟨hold1, Nat.le_of_lt_succ hold.isLt⟩, rfl⟩
  have hloss : readRange 2 4095 loss.toNat = some loss.toNat := readRange_eq_some.2 ⟨⟨loss2, loss4095⟩, rfl⟩
  rw [silenceAnswer, hhold, hloss]
  exact if_pos less

theorem silenceAnswer_refused {hold : Byte} {loss : Half}
    (h : ¬ (1 ≤ hold.toNat ∧ 2 ≤ loss.toNat ∧ loss.toNat ≤ 4095 ∧ hold.toNat < loss.toNat)) (s : State) :
    silenceAnswer hold loss s = refuse s .range := by
  unfold silenceAnswer
  split
  · rename_i x y hx hy
    obtain ⟨⟨_, _⟩, rfl⟩ := readRange_eq_some.1 hx
    obtain ⟨⟨_, _⟩, rfl⟩ := readRange_eq_some.1 hy
    rw [if_neg (by omega)]
  · rfl

/-- Settles O19, by the two readings of the limits. -/
theorem silenceSetsTheLimits : Obligations.SilenceSetsTheLimits := by
  intro q hold loss s
  exact ⟨fun h => ⟨fun hears => onEither_hears hears (silenceAnswer_set h _), fun heard => onEither_heard heard (silenceAnswer_set h _)⟩,
    fun h => ⟨fun hears => onEither_refused hears (silenceAnswer_refused h _),
      fun heard => onEither_ignored heard (silenceAnswer_refused h _)⟩⟩

/-! ### The end of a binding -/

theorem referenceLoss_eq (s : State) : referenceLoss s = referenceLost s := by
  unfold referenceLoss referenceLost
  by_cases h : s.rgu.genlock = .locked
  · simp only [h, decide_true, State.raiseIf, if_true]
    rfl
  · simp only [h, decide_false, State.raiseIf, Bool.false_eq_true, if_false]
    rfl

theorem leaveLive_eq (src : Fin 16) (s : State) : leaveLive src s = leftLive src s := by
  rw [leaveLive, referenceLoss_eq]
  rfl

theorem endBinding_eq (h : (s.store i).binding = some src) : endBinding i s = unbinding i src s := by
  rw [endBinding_bound h, leaveLive_eq]
  rfl

/-- The end of a binding neither reads nor writes the receiver. -/
theorem unbinding_goodCell (i : Fin 8) (src : Fin 16) (s : State) : unbinding i src s.goodCell = (unbinding i src s).goodCell := by
  unfold unbinding leftLive
  rw [apply_ite State.goodCell]
  rfl

theorem pinned_iff {st : Store} : st.pinned = true ↔ ¬ Unpinned st := by
  rw [Store.pinned, ← not_iff_not, Bool.not_eq_true, Option.isSome_eq_false_iff, Option.isNone_iff_eq_none, pinnedSlot_none, not_not]

/-! ### SUBSCRIBE and RELEASE -/

theorem subscribeAnswer_of {ib sb : Byte} (hi : Names ib i) (hsrc : Names sb src) (s : State) : subscribeAnswer ib sb s =
    if (List.finRange 8).any (fun j => j ≠ i && (s.store j).binding = some src) then refuse s .duplicate
    else if (s.store i).binding.isSome && (s.store i).pinned then refuse s .pinned
    else ⟨(endBinding i s).setStore i ⟨some src, .waiting, 0, clearedSlots, 0, false, 0, 0, 0, 0⟩, .done, [], none⟩ := by
  rw [subscribeAnswer, readIndex_of hi, readIndex_of hsrc]
  rfl

/-- No other store is bound to the source (R49). -/
theorem no_duplicate (h : ∀ j, (s.store j).binding = some src → j = i) :
    (List.finRange 8).any (fun j => j ≠ i && (s.store j).binding = some src) = false := by
  rw [List.any_eq_false]
  intro j _
  simpa using fun hne hb => hne (h j hb)

section Subscribe

variable {ib sb : Byte} (hi : Names ib i) (hsrc : Names sb src)
include hi hsrc

theorem subscribeAnswer_duplicate {j : Fin 8} (hj : j ≠ i) (hb : (s.store j).binding = some src) :
    subscribeAnswer ib sb s = refuse s .duplicate := by
  rw [subscribeAnswer_of hi hsrc, if_pos (List.any_eq_true.2 ⟨j, List.mem_finRange j, by simpa using ⟨hj, hb⟩⟩)]

variable (only : ∀ j, (s.store j).binding = some src → j = i)
include only

theorem subscribeAnswer_pinned (bound : (s.store i).binding ≠ none) (pinned : ¬ Unpinned (s.store i)) :
    subscribeAnswer ib sb s = refuse s .pinned := by
  rw [subscribeAnswer_of hi hsrc, no_duplicate only, pinned_iff.2 pinned, Option.isSome_iff_ne_none.2 bound]
  rfl

theorem subscribeAnswer_free (free : (s.store i).binding = none) : subscribeAnswer ib sb s
    = ⟨s.setStore i ⟨some src, .waiting, 0, clearedSlots, 0, false, 0, 0, 0, 0⟩, .done, [], none⟩ := by
  rw [subscribeAnswer_of hi hsrc, no_duplicate only, endBinding_unbound free, free]
  rfl

theorem subscribeAnswer_rebound {old : Fin 16} (bound : (s.store i).binding = some old) (unpinned : Unpinned (s.store i)) :
    subscribeAnswer ib sb s
      = ⟨(unbinding i old s).setStore i ⟨some src, .waiting, 0, clearedSlots, 0, false, 0, 0, 0, 0⟩, .done, [], none⟩ := by
  rw [subscribeAnswer_of hi hsrc, no_duplicate only, endBinding_eq bound, Bool.eq_false_iff.2 fun h => pinned_iff.1 h unpinned,
    Bool.and_false]
  rfl

end Subscribe

/-- Settles O20: the checks in the order in which the answer makes them. -/
theorem subscribeBindsTheStore : Obligations.SubscribeBindsTheStore := by
  intro q ib sb s hears
  refine ⟨fun h => onRequest_refused hears ?_, fun i src hi hsrc =>
    ⟨fun ⟨j, hj, hb⟩ => onRequest_refused hears (subscribeAnswer_duplicate hi hsrc hj hb), fun only =>
      ⟨fun bound pinned => onRequest_refused hears (subscribeAnswer_pinned hi hsrc only bound pinned),
        fun free => onRequest_hears hears (subscribeAnswer_free (s := s.goodCell) hi hsrc only free),
        fun old bound unpinned => onRequest_hears hears ?_⟩⟩⟩
  · rw [subscribeAnswer]
    rcases h with h | h <;> rw [readIndex_none h]
    cases readIndex 8 ib <;> rfl
  · rw [subscribeAnswer_rebound (s := s.goodCell) hi hsrc only bound unpinned, unbinding_goodCell]
    rfl

section Release

variable {ib : Byte} (hi : Names ib i)
include hi

theorem releaseAnswer_absent (free : (s.store i).binding = none) : releaseAnswer ib s = refuse s .absent := by
  rw [releaseAnswer, readIndex_of hi]
  simp only [free]
  rfl

theorem releaseAnswer_pinned (bound : (s.store i).binding ≠ none) (pinned : ¬ Unpinned (s.store i)) :
    releaseAnswer ib s = refuse s .pinned := by
  obtain ⟨old, hb⟩ := Option.ne_none_iff_exists'.1 bound
  rw [releaseAnswer, readIndex_of hi]
  simp only [hb, pinned_iff.2 pinned]
  rfl

theorem releaseAnswer_released {old : Fin 16} (bound : (s.store i).binding = some old) (unpinned : Unpinned (s.store i)) :
    releaseAnswer ib s = ⟨(unbinding i old s).setStore i { s.store i with
      binding := none, state := .unbound, silence := 0, slots := clearedSlots, dropping := false }, .done, [], none⟩ := by
  have notPinned : (s.store i).pinned = false := Bool.eq_false_iff.2 fun h => pinned_iff.1 h unpinned
  rw [releaseAnswer, readIndex_of hi]
  simp only [bound, notPinned, endBinding_eq bound]
  rfl

end Release

/-- Settles O21: the checks in the order in which the answer makes them. -/
theorem releaseUnbindsTheStore : Obligations.ReleaseUnbindsTheStore := by
  intro q ib s hears
  refine ⟨fun h => onRequest_refused hears (by rw [releaseAnswer, readIndex_none h]), fun i hi =>
    ⟨fun free => onRequest_refused hears (releaseAnswer_absent hi free),
      fun bound pinned => onRequest_refused hears (releaseAnswer_pinned hi bound pinned),
      fun old bound unpinned => onRequest_hears hears ?_⟩⟩
  rw [releaseAnswer_released (s := s.goodCell) hi bound unpinned, unbinding_goodCell]
  rfl

/-! ### FREEZE NOW -/

theorem pinnedSlot_eq {st : Store} {k : Fin 3} (h : 0 < (st.slot k).pins) (only : ∀ j, 0 < (st.slot j).pins → j = k) :
    st.pinnedSlot = some k := by
  cases hf : st.pinnedSlot with
  | none => exact absurd (pinnedSlot_none.1 hf k) (Nat.ne_of_gt h)
  | some j => rw [only j (pinnedSlot_some hf)]

theorem freezeResult_eq {k : Fin 3} {f : FrameInfo} (hf : ((s.store i).slot k).frame = some f) :
    freezeResult s i k = [BitVec.ofNat 8 i.val, BitVec.ofNat 8 k.val, f.tag, BitVec.ofNat 8 ((s.store i).slot k).pins] := by
  rw [freezeResult, SlotRecord.tagByte, hf]
  rfl

/-- The checks of a FREEZE passed, on a window that is not FROZEN (R89). -/
theorem freezeChecked_of {ob wb : Byte} {o : Fin 4} {w : Fin 8} {r : WindowRecord} {act : Fin 4 → Fin 8 → Fin 8 → Answer}
    (ho : Names ob o) (hw : Names wb w) (hr : s.activeWindow o w = some r) (hc : r.content = .source src) (hi : BoundAt s src i)
    (hfree : ∀ j k shared, s.freeze o w ≠ .frozen j k shared) : freezeChecked true ob wb s act = act o w i := by
  simp only [freezeChecked, readIndex_of ho, readIndex_of hw, hr, Option.map_some, hc, storeOf_boundAt hi]

/-- A window that is FROZEN already is reported (R89). -/
theorem freezeChecked_frozen {ob wb : Byte} {o : Fin 4} {w j : Fin 8} {k : Fin 3} {shared : Bool} {r : WindowRecord}
    {act : Fin 4 → Fin 8 → Fin 8 → Answer} (ho : Names ob o) (hw : Names wb w) (hr : s.activeWindow o w = some r)
    (hc : r.content = .source src) (hi : BoundAt s src i) (hf : s.freeze o w = .frozen j k shared) :
    freezeChecked true ob wb s act = ⟨s, .done, freezeResult s j k, none⟩ := by
  simp only [freezeChecked, readIndex_of ho, readIndex_of hw, hr, Option.map_some, hc, storeOf_boundAt hi, hf]

/-- The slot that a freeze takes, once it is taken: it is pinned once more. -/
theorem takeFreeze_slot (o : Fin 4) (w i : Fin 8) (k : Fin 3) (shared : Bool) (s : State) :
    ((takeFreeze o w i k shared s).store i).slot k = { (s.store i).slot k with pins := ((s.store i).slot k).pins + 1 } := by
  have store : (takeFreeze o w i k shared s).store i = (s.store i).setPins k (((s.store i).slot k).pins + 1) :=
    store_setStore i _ s
  rw [store, Store.setPins_slot, if_pos rfl]

theorem takeFreeze_result {o : Fin 4} {w : Fin 8} {k : Fin 3} {shared : Bool} {f : FrameInfo}
    (hf : ((s.store i).slot k).frame = some f) : freezeResult (takeFreeze o w i k shared s) i k
      = [BitVec.ofNat 8 i.val, BitVec.ofNat 8 k.val, f.tag, BitVec.ofNat 8 (((s.store i).slot k).pins + 1)] := by
  rw [freezeResult_eq (f := f) (by rw [takeFreeze_slot]; exact hf), takeFreeze_slot]

section FreezeNow

variable {o : Fin 4} {w : Fin 8} {k : Fin 3} {f : FrameInfo}

/-- With no pin on the store, the selected slot is pinned (R64, R90). -/
theorem freezeNowOn_made (unpinned : Unpinned (s.store i)) (selected : ((s.store i).slot k).selected = true)
    (only : ∀ j, ((s.store i).slot j).selected = true → j = k) (hf : ((s.store i).slot k).frame = some f) :
    freezeNowOn s o w i = ⟨((s.setStore i ((s.store i).setSlot k { (s.store i).slot k with pins := 1 })).setFreeze o w
      (.frozen i k false)).setTransition o w .idle, .done, [BitVec.ofNat 8 i.val, BitVec.ofNat 8 k.val, f.tag, 1#8], none⟩ := by
  have made : (s.store i).pinAnswer = .made k := by
    simp only [Store.pinAnswer, pinnedSlot_none.2 unpinned, selectedSlot_eq selected only]
  simp only [freezeNowOn, made, takeFreeze_result hf, unpinned k]
  simp only [takeFreeze, pinSlot, unpinned k]
  rfl

/-- With a pin on the store, it is joined (R64, R90). -/
theorem freezeNowOn_joined (pinned : 0 < ((s.store i).slot k).pins) (only : ∀ j, 0 < ((s.store i).slot j).pins → j = k)
    (hf : ((s.store i).slot k).frame = some f) :
    freezeNowOn s o w i = ⟨((s.setStore i ((s.store i).setSlot k { (s.store i).slot k with
        pins := ((s.store i).slot k).pins + 1 })).setFreeze o w (.frozen i k false)).setTransition o w .idle, .shared,
      [BitVec.ofNat 8 i.val, BitVec.ofNat 8 k.val, f.tag, BitVec.ofNat 8 (((s.store i).slot k).pins + 1)], none⟩ := by
  have joined : (s.store i).pinAnswer = .joined k := by simp only [Store.pinAnswer, pinnedSlot_eq pinned only]
  simp only [freezeNowOn, joined, takeFreeze_result hf]
  rfl

theorem freezeNowOn_absent (unpinned : Unpinned (s.store i)) (unselected : ∀ k, ((s.store i).slot k).selected = false) :
    freezeNowOn s o w i = refuse s .absent := by
  have noSlot : (s.store i).pinAnswer = .noSlot := by
    simp only [Store.pinAnswer, pinnedSlot_none.2 unpinned, selectedSlot_none unselected]
  simp only [freezeNowOn, noSlot]

end FreezeNow

/-- Settles O23: with the checks passed, STM's answer to the pin request decides. -/
theorem freezeNowPinsASlot : Obligations.FreezeNowPinsASlot := by
  intro q ob wb kb s hears hkind o w ho hw r src i hr hc hi
  have now : freezeNowAnswer ob wb kb s.goodCell = freezeChecked true ob wb s.goodCell (freezeNowOn s.goodCell) := by
    rw [freezeNowAnswer, decide_eq_true hkind]
  refine ⟨fun hfree => ?_, fun j k shared f hfrozen hf => onRequest_hears hears ?_⟩
  · have answer := now.trans (freezeChecked_of (s := s.goodCell) ho hw hr hc hi hfree)
    exact ⟨fun k f unpinned selected only hf => onRequest_hears hears
        (answer.trans (freezeNowOn_made (s := s.goodCell) unpinned selected only hf)),
      fun k f pinned only hf => onRequest_hears hears (answer.trans (freezeNowOn_joined (s := s.goodCell) pinned only hf)),
      fun unpinned unselected => onRequest_refused hears (answer.trans (freezeNowOn_absent (s := s.goodCell) unpinned unselected))⟩
  · rw [now, freezeChecked_frozen (s := s.goodCell) ho hw hr hc hi hfrozen, freezeResult_eq (s := s.goodCell) hf]
    rfl

end Sys2Proof.Proofs
end

section
/-! PROOFS. PIC and FRAME-CLOSE, as the blocks take them (R54, R56 to R58, R144). -/

namespace Sys2Proof.Proofs

open Sys2Proof.Machine Sys2Proof.Claims Sys2Proof.Safety

variable {s v : State} {st : Store} {i : Fin 8} {k : Fin 3} {f : FrameInfo} {tag : Byte} {src : Fin 16}

/-! ### Cells in SYNC -/

/-- A cell that goes on as it came, with what the blocks do with it. -/
theorem onForwarded_sync {act : State → State} {u : State} (h : s.trx.link = .sync) (ha : act s.goodCell = u.goodCell) :
    onForwarded act s = .next (passedOn u) := by
  rw [onForwarded, onCell_sync h, ha]
  rfl

theorem cellSource_of {sb : Byte} (h : Names sb src) : cellSource sb = some src := readIndex_of h

theorem cellSource_none {sb : Byte} (h : 16 ≤ sb.toNat) : cellSource sb = none := readIndex_none h

theorem forStore_unbound {act : Fin 8 → State → State} (h : Unbound s src) : forStore src act s = s := by
  rw [forStore, storeOf_unbound h]

theorem forStore_boundAt {act : Fin 8 → State → State} (h : BoundAt s src i) : forStore src act s = act i s := by
  rw [forStore, storeOf_boundAt h]

theorem surveyCell_eq (src : Fin 16) (g : SurveyRecord → SurveyRecord) (s : State) :
    surveyCell src g s = { s with survey := surveyed src g s.survey } := by
  unfold surveyCell surveyed
  split <;> rfl

/-! ### A PIC of a bound store -/

theorem matchPic_stray {sequence line first : Nat} {px : List Colour} (h : NoneFilling (s.store i) tag) :
    matchPic i tag sequence line first px s = s.setStore i { s.store i with stray := bumped (s.store i).stray } := by
  rw [matchPic, matching_none h, strayCell_eq]

section MatchPic

variable {sequence line first : Nat} {px : List Colour} (hf : FillingAt (s.store i) k f) (ht : f.tag = tag)
include hf ht

theorem matchPic_damaged (h : sequence ≠ f.next ∨ f.cells ≤ sequence) :
    matchPic i tag sequence line first px s = raised 4 (s.setStore i (damagedAt (s.store i) k f)) := by
  simp only [matchPic, matching_of_fillingAt hf ht, if_pos h, damageFrame_eq hf.1]

theorem matchPic_overflow (hs : sequence = f.next) (hc : sequence < f.cells) (full : 48 ≤ s.queue.length) :
    matchPic i tag sequence line first px s = raised 3 (raised 4 (s.setStore i (damagedAt (s.store i) k f))) := by
  have inOrder : ¬ (sequence ≠ f.next ∨ f.cells ≤ sequence) := by omega
  simp only [matchPic, matching_of_fillingAt hf ht, if_neg inOrder, if_pos (queueFull_iff.2 full), overflow_eq hf.1]

theorem matchPic_accepted (hs : sequence = f.next) (hc : sequence < f.cells) (room : s.queue.length < 48) :
    matchPic i tag sequence line first px s = { s.setStore i (withFrame (s.store i) k { f with next := f.next + 1 }) with
      queue := s.queue ++ [.pic i k line first px] } := by
  have inOrder : ¬ (sequence ≠ f.next ∨ f.cells ≤ sequence) := by omega
  have notFull : ¬ queueFull s = true := by rw [queueFull_iff]; omega
  simp only [matchPic, matching_of_fillingAt hf ht, if_neg inOrder, if_neg notFull, acceptPic_eq]

end MatchPic

/-- The colours that a PIC carries are those of its first `count` words. -/
theorem picPixels_eq {count : Nat} {px : List Word} (h : count ≤ px.length) : picPixels count px = (px.take count).map colourOf := by
  refine List.ext_getElem (by simp [picPixels, h]) fun n hn _ => ?_
  have inside : n < px.length := by
    rw [picPixels_length] at hn
    omega
  simp [picPixels, readColour_eq, inside]

section Pic

variable {sb count : Byte} {sq line first : Half} {px : List Word}

theorem takePic_foreign (h : 16 ≤ sb.toNat) : takePic sb tag sq line first count px s = s := by rw [takePic, cellSource_none h]

/-- What SVU makes of a PIC (R144). -/
theorem surveyCell_sawPic : surveyCell src SurveyRecord.sawPic s
    = { s with survey := surveyed src (fun r => { r with pics := bumped r.pics }) s.survey } := by
  have saw : SurveyRecord.sawPic = fun r => { r with pics := bumped r.pics } := by
    funext r
    rw [SurveyRecord.sawPic, bumped_eq]
  rw [surveyCell_eq, saw]

variable (hsrc : Names sb src)
  (hv : v = { s with survey := surveyed src (fun r => { r with pics := bumped r.pics }) s.survey })
include hsrc hv

theorem takePic_unbound (h : Unbound s src) : takePic sb tag sq line first count px s = v := by
  have unbound : Unbound v src := hv ▸ h
  rw [takePic, cellSource_of hsrc]
  simp only [surveyCell_sawPic, ← hv, forStore_unbound unbound]

variable (hi : BoundAt s src i) (hst : st = { s.store i with silence := 0 })
include hi hst

theorem takePic_bound : takePic sb tag sq line first count px s =
    if st.dropping then v.setStore i st
    else if picInRange line.toNat first.toNat count.toNat then
      matchPic i tag sq.toNat line.toNat first.toNat (picPixels count.toNat px) (v.setStore i st)
    else v.setStore i { st with stray := bumped st.stray } := by
  have bound : BoundAt v src i := hv ▸ hi
  have arrived : (v.store i).arrival = st := by rw [hv, hst]; rfl
  rw [takePic, cellSource_of hsrc]
  simp only [surveyCell_sawPic, ← hv, forStore_boundAt bound, storePic, arrived, store_setStore, setStore_setStore, strayCell_eq]

theorem takePic_dropped (h : st.dropping = true) : takePic sb tag sq line first count px s = v.setStore i st := by
  rw [takePic_bound hsrc hv hi hst, if_pos h]

theorem takePic_stray (h : st.dropping = false) (hx : ¬ PicInRange line first count ∨ NoneFilling st tag) :
    takePic sb tag sq line first count px s = v.setStore i { st with stray := bumped st.stray } := by
  rw [takePic_bound hsrc hv hi hst, if_neg (by simp [h])]
  split
  · rename_i hr
    have none := hx.resolve_left (not_not_intro (of_decide_eq_true hr))
    rw [matchPic_stray (by rwa [store_setStore]), store_setStore, setStore_setStore]
  · rfl

theorem takePic_matched (h : st.dropping = false) (hr : PicInRange line first count) : takePic sb tag sq line first count px s
    = matchPic i tag sq.toNat line.toNat first.toNat (picPixels count.toNat px) (v.setStore i st) := by
  have range : picInRange line.toNat first.toNat count.toNat = true := decide_eq_true hr
  rw [takePic_bound hsrc hv hi hst, if_neg (by simp [h]), if_pos range]

end Pic

/-- Settles O40, clause by clause in the order in which STM tests the cell. -/
theorem picIsTaken : Obligations.PicIsTaken := by
  intro sb tag sq line first count px s link hpx
  refine ⟨fun h => onForwarded_sync link (takePic_foreign h), fun src v hsrc hv => ?_⟩
  have hgood : v.goodCell = { s.goodCell with survey := surveyed src (fun r => { r with pics := bumped r.pics }) s.goodCell.survey } := by
    rw [hv]
    rfl
  refine ⟨fun h => onForwarded_sync link (takePic_unbound (s := s.goodCell) hsrc hgood h), fun i st hi hst => ?_⟩
  have hgoodSt : st = { s.goodCell.store i with silence := 0 } := hst
  have hgoodQueue : (v.goodCell.setStore i st).queue = s.queue := by rw [hv]; rfl
  have own : (v.goodCell.setStore i st).store i = st := store_setStore i st _
  refine ⟨fun h => onForwarded_sync link (takePic_dropped hsrc hgood hi hgoodSt h),
    fun h hx => onForwarded_sync link (takePic_stray hsrc hgood hi hgoodSt h hx), fun h hr k f hf ht => ?_⟩
  have matched := takePic_matched (tag := tag) (sq := sq) (px := px) hsrc hgood hi hgoodSt h hr
  rw [← own] at hf
  refine ⟨fun hx => onForwarded_sync link ?_, fun hs hc full => onForwarded_sync link ?_, fun hs hc room => onForwarded_sync link ?_⟩
  · rw [matched, matchPic_damaged hf ht hx, own, setStore_setStore]
    rfl
  · rw [matched, matchPic_overflow hf ht hs hc (hgoodQueue ▸ full), own, setStore_setStore]
    rfl
  · rw [matched, matchPic_accepted hf ht hs hc (hgoodQueue ▸ room), own, setStore_setStore, hgoodQueue,
      picPixels_eq (by rw [hpx]; exact hr.2.2.2)]
    rfl

/-! ### A FRAME-CLOSE of a bound store -/

theorem matchClose_stray {cells : Nat} (h : NoneFilling (s.store i) tag) :
    matchClose i tag cells s = s.setStore i { s.store i with stray := bumped (s.store i).stray } := by
  rw [matchClose, matching_none h, strayCell_eq]

section MatchClose

variable {cells : Nat} (hf : FillingAt (s.store i) k f) (ht : f.tag = tag)
include hf ht

theorem matchClose_damaged (h : cells ≠ f.next ∨ f.next ≠ f.cells) :
    matchClose i tag cells s = raised 4 (s.setStore i (damagedAt (s.store i) k f)) := by
  simp only [matchClose, matching_of_fillingAt hf ht, if_pos h, damageFrame_eq hf.1]

theorem matchClose_overflow (hn : cells = f.next) (hc : f.next = f.cells) (full : 48 ≤ s.queue.length) :
    matchClose i tag cells s = raised 3 (raised 4 (s.setStore i (damagedAt (s.store i) k f))) := by
  have counted : ¬ (cells ≠ f.next ∨ f.next ≠ f.cells) := by omega
  simp only [matchClose, matching_of_fillingAt hf ht, if_neg counted, if_pos (queueFull_iff.2 full), overflow_eq hf.1]

theorem matchClose_accepted (hn : cells = f.next) (hc : f.next = f.cells) (room : s.queue.length < 48) :
    matchClose i tag cells s = { s.setStore i (withFrame (s.store i) k { f with phase := .closing }) with
      queue := s.queue ++ [.close i k] } := by
  have counted : ¬ (cells ≠ f.next ∨ f.next ≠ f.cells) := by omega
  have notFull : ¬ queueFull s = true := by rw [queueFull_iff]; omega
  simp only [matchClose, matching_of_fillingAt hf ht, if_neg counted, if_neg notFull, acceptClose_eq]

end MatchClose

section Close

variable {sb : Byte} {sent : Half}

theorem takeClose_foreign (h : 16 ≤ sb.toNat) : takeClose sb tag sent s = s := by rw [takeClose, cellSource_none h]

variable (hsrc : Names sb src)
include hsrc

theorem takeClose_unbound (h : Unbound s src) : takeClose sb tag sent s = s := by
  rw [takeClose, cellSource_of hsrc]
  exact forStore_unbound h

variable (hi : BoundAt s src i) (hst : st = { s.store i with silence := 0 })
include hi hst

theorem takeClose_bound : takeClose sb tag sent s =
    if st.dropping then s.setStore i st else matchClose i tag sent.toNat (s.setStore i st) := by
  have arrived : (s.store i).arrival = st := hst.symm
  rw [takeClose, cellSource_of hsrc]
  simp only [forStore_boundAt hi, storeClose, arrived, store_setStore]

theorem takeClose_dropped (h : st.dropping = true) : takeClose sb tag sent s = s.setStore i st := by
  rw [takeClose_bound hsrc hi hst, if_pos h]

theorem takeClose_matched (h : st.dropping = false) :
    takeClose sb tag sent s = matchClose i tag sent.toNat (s.setStore i st) := by
  rw [takeClose_bound hsrc hi hst, if_neg (by simp [h])]

end Close

/-- Settles O41, clause by clause in the order in which STM tests the cell. -/
theorem frameCloseIsTaken : Obligations.FrameCloseIsTaken := by
  intro sb tag sent s link
  refine ⟨fun h => onForwarded_sync link (takeClose_foreign h), fun src hsrc =>
    ⟨fun h => onForwarded_sync link (takeClose_unbound (s := s.goodCell) hsrc h), fun i st hi hst => ?_⟩⟩
  have hgoodSt : st = { s.goodCell.store i with silence := 0 } := hst
  have own : (s.goodCell.setStore i st).store i = st := store_setStore i st _
  refine ⟨fun h => onForwarded_sync link (takeClose_dropped (s := s.goodCell) hsrc hi hgoodSt h),
    fun h none => onForwarded_sync link ?_, fun h k f hf ht => ?_⟩
  · rw [takeClose_matched (s := s.goodCell) hsrc hi hgoodSt h, matchClose_stray (by rwa [own]), own, setStore_setStore]
    rfl
  have matched := takeClose_matched (tag := tag) (sent := sent) (s := s.goodCell) hsrc hi hgoodSt h
  rw [← own] at hf
  refine ⟨fun hx => onForwarded_sync link ?_, fun hn hc full => onForwarded_sync link ?_, fun hn hc room => onForwarded_sync link ?_⟩
  · rw [matched, matchClose_damaged hf ht hx, own, setStore_setStore]
    rfl
  · rw [matched, matchClose_overflow hf ht hn hc full, own, setStore_setStore]
    rfl
  · rw [matched, matchClose_accepted hf ht hn hc room, own, setStore_setStore]
    rfl

end Sys2Proof.Proofs
end

section
/-! PROOFS. FRAME-OPEN, as the blocks take it, and the slot that STM chooses (R54 to R56, R121, R122, R144). -/

namespace Sys2Proof.Proofs

open Sys2Proof.Machine Sys2Proof.Claims Sys2Proof.Safety

variable {s u : State} {st : Store} {i : Fin 8} {j k : Fin 3} {f : FrameInfo} {tag sb : Byte} {src : Fin 16} {w h n : Half} {tick m : Nat}

/-! ### RGU and SVU -/

theorem reachTick_eq (tick : Nat) (s : State) : reachTick tick s = atTick tick s := by
  have reached : min tick (s.rgu.length - 1) = if tick < s.rgu.length then tick else s.rgu.length - 1 := by split <;> omega
  unfold reachTick atTick
  simp only [Nat.lt_min]
  rw [reached]
  rfl

/-- The raster's move to a tick neither reads nor writes the receiver. -/
theorem atTick_goodCell (tick : Nat) (s : State) : atTick tick s.goodCell = (atTick tick s).goodCell := by
  unfold atTick
  rw [apply_ite State.goodCell]
  rfl

theorem arrivalTick_eq (s : State) : arrivalTick s = captureTick s := by
  simp [arrivalTick, captureTick, State.marked]

theorem phaseError_eq (l p : Nat) : phaseError l p = if 2 * p ≤ l then (p : Int) else (p : Int) - l := by
  unfold phaseError
  congr 1
  exact propext (by omega)

theorem capture_eq (src : Fin 16) (s : State) : capture src s = { s with rgu := captured src s } := by
  unfold capture captured
  split
  · rw [phaseError_eq, arrivalTick_eq]
    rfl
  · rfl

/-- What RGU and SVU make of a FRAME-OPEN (R121, R144). -/
theorem openSeen_eq (src : Fin 16) (tag : Byte) (w h : Half) (tick : Nat) (s : State) :
    capture src (surveyCell src (SurveyRecord.sawOpen w.toNat h.toNat tag) (reachTick tick s)) = openSeen src tag w h tick s := by
  have saw : SurveyRecord.sawOpen w.toNat h.toNat tag
      = fun r => { r with opens := bumped r.opens, last := some ⟨w.toNat, h.toNat, tag⟩ } := by
    funext r
    rw [SurveyRecord.sawOpen, bumped_eq]
  have survey : (atTick tick s).survey = s.survey := by
    unfold atTick
    split <;> rfl
  rw [capture_eq, surveyCell_eq, saw, reachTick_eq, openSeen, ← survey]
  rfl

theorem openSeen_goodCell (src : Fin 16) (tag : Byte) (w h : Half) (tick : Nat) (s : State) :
    openSeen src tag w h tick s.goodCell = (openSeen src tag w h tick s).goodCell := by
  unfold openSeen
  rw [atTick_goodCell]
  rfl

/-- RGU and SVU leave the stores. -/
theorem openSeen_stores (src : Fin 16) (tag : Byte) (w h : Half) (tick : Nat) (s : State) :
    (openSeen src tag w h tick s).stores = s.stores := by
  show (atTick tick s).stores = s.stores
  unfold atTick
  split <;> rfl

theorem openSeen_store (src : Fin 16) (tag : Byte) (w h : Half) (tick : Nat) (s : State) (i : Fin 8) :
    (openSeen src tag w h tick s).store i = s.store i := by rw [State.store, openSeen_stores, State.store]

theorem takeOpen_foreign (hsb : 16 ≤ sb.toNat) : takeOpen sb tag w h n tick s = atTick tick s := by
  rw [takeOpen, cellSource_none hsb, reachTick_eq]

section Open

variable (hsrc : Names sb src)
include hsrc

theorem takeOpen_unbound (hu : Unbound s src) : takeOpen sb tag w h n tick s = openSeen src tag w h tick s := by
  rw [takeOpen, cellSource_of hsrc]
  simp only [openSeen_eq]
  exact forStore_unbound fun j => by rw [openSeen_store]; exact hu j

variable (hi : BoundAt s src i)
include hi

theorem takeOpen_bound : takeOpen sb tag w h n tick s
    = storeOpen i tag w.toNat h.toNat n.toNat (openSeen src tag w h tick s) := by
  rw [takeOpen, cellSource_of hsrc]
  simp only [openSeen_eq]
  refine forStore_boundAt ⟨by rw [openSeen_store]; exact hi.1, fun j => ?_⟩
  rw [openSeen_store]
  exact hi.2 j

theorem takeOpen_stray (hr : ¬ OpenInRange w h n) : takeOpen sb tag w h n tick s
    = (openSeen src tag w h tick s).setStore i { s.store i with silence := 0, stray := bumped (s.store i).stray } := by
  have range : ¬ openInRange w.toNat h.toNat n.toNat = true := fun hx => hr (of_decide_eq_true hx)
  rw [takeOpen_bound hsrc hi, storeOpen]
  simp only [if_neg range, strayCell_eq, store_setStore, setStore_setStore, openSeen_store]
  rfl

/-- In range, STM ends what is FILLING, clears the dropping mark and chooses (R55). -/
theorem takeOpen_ready (hr : OpenInRange w h n) : takeOpen sb tag w h n tick s = chooseSlot i tag w.toNat h.toNat n.toNat
    (clearDropping i (endUnclosed i ((openSeen src tag w h tick s).setStore i ((openSeen src tag w h tick s).store i).arrival))) := by
  have range : openInRange w.toNat h.toNat n.toNat = true := decide_eq_true hr
  rw [takeOpen_bound hsrc hi, storeOpen]
  simp only [if_pos range]

end Open

/-- Settles O38: where the cell's source is read, and what STM makes of a cell out of range. -/
theorem frameOpenIsSeen : Obligations.FrameOpenIsSeen := by
  intro sb tag w h n tick s link
  refine ⟨fun hsb => onForwarded_sync link ?_, fun src hsrc => ⟨fun hu => onForwarded_sync link ?_,
    fun i hi hr => onForwarded_sync link ?_⟩⟩
  · rw [takeOpen_foreign hsb, atTick_goodCell]
  · rw [takeOpen_unbound (s := s.goodCell) hsrc hu, openSeen_goodCell]
  · rw [takeOpen_stray (s := s.goodCell) hsrc hi hr, openSeen_goodCell]
    rfl

/-! ### Steps 1 and 2 of R55 -/

theorem fillingSlot_eq_none (hf : ∀ k, ∀ f ∈ (st.slot k).frame, f.phase ≠ .filling) : st.fillingSlot = none := by
  refine List.find?_eq_none.2 fun k _ hk => ?_
  obtain ⟨f, hframe, hp⟩ := filling_iff.1 hk
  exact hf k f hframe hp

/-- The state and the store that the choice is made in (R55). -/
theorem ready_eq (hu : OpenReady i s u st) :
    clearDropping i (endUnclosed i (s.setStore i (s.store i).arrival)) = u.setStore i st := by
  have own : (s.setStore i (s.store i).arrival).store i = (s.store i).arrival := store_setStore i _ s
  rcases hu with ⟨none, hu, rfl⟩ | ⟨k, f, filling, hu, rfl⟩ <;> rw [hu]
  · have hnone : (s.store i).arrival.fillingSlot = Option.none := fillingSlot_eq_none none
    rw [endUnclosed, own, hnone]
    simp only [clearDropping, own, setStore_setStore]
    rfl
  · have hsome : (s.store i).arrival.fillingSlot = some k := fillingSlot_of_fillingAt filling
    have hframe : (((s.setStore i (s.store i).arrival).store i).slot k).frame = some f := by rw [own]; exact filling.1
    rw [endUnclosed, own, hsome]
    simp only [damageFrame_eq hframe, own, setStore_setStore]
    have store (x : Store) : (raised 4 (s.setStore i x)).store i = x := store_setStore i x s
    rw [clearDropping, store]
    show raised 4 ((s.setStore i _).setStore i _) = raised 4 (s.setStore i _)
    rw [setStore_setStore]
    rfl

/-- The store that the choice is made in is legal. -/
theorem ready_sound (hs : StoreSound (s.store i)) (bound : (s.store i).binding ≠ none) (hu : OpenReady i s u st) : StoreSound st := by
  have cleared : StoreSound { s.store i with silence := 0, dropping := false } := hs.counted bound rfl
  rcases hu with ⟨-, -, rfl⟩ | ⟨k, f, filling, -, rfl⟩
  · exact cleared
  · exact cleared.damagedAt bound filling.1 (by simp [filling.2.1])

/-! ### The slot that is chosen -/

theorem candidate_iff {r : SlotRecord} : r.candidate = true ↔ Candidate r := by
  obtain ⟨frame, selected, pins⟩ := r
  rcases frame with _ | ⟨_ | _ | m | _, tag, width, height, cells, next⟩ <;>
    simp [SlotRecord.candidate, Candidate, SlotRecord.filling, SlotRecord.closing]

theorem vacant_iff {r : SlotRecord} : (r.candidate && r.spare) = true ↔ Vacant r := by
  rw [Bool.and_eq_true, candidate_iff]
  refine and_congr_right fun _ => ?_
  obtain ⟨frame, selected, pins⟩ := r
  rcases frame with _ | ⟨_ | _ | m | _, tag, width, height, cells, next⟩ <;> simp [SlotRecord.spare]

/-- A legal store's newest slot is the one of greatest number (R53). -/
theorem StoreSound.newest_iff (hs : StoreSound st) : st.newest = some k ↔ NewestComplete st k := by
  constructor
  · intro hk
    obtain ⟨n, hn, greatest⟩ := newest_eq_some hk
    exact ⟨n, number?_eq_some.1 hn, fun j m hm => greatest j m (number?_eq_some.2 hm)⟩
  · rintro ⟨n, hn, greatest⟩
    rw [← number?_eq_some] at hn
    cases hk : st.newest with
    | none =>
      have := List.find?_eq_none.1 hk k (List.mem_finRange k)
      rw [hn] at this
      refine absurd (List.all_eq_true.2 fun j _ => decide_eq_true ?_) this
      cases hj : (st.slot j).number? with
      | none => exact Nat.zero_le _
      | some m => exact greatest j m (number?_eq_some.1 hj)
    | some j =>
      obtain ⟨m, hm, above⟩ := newest_eq_some hk
      have same : m = n := Nat.le_antisymm (greatest j m (number?_eq_some.1 hm)) (above k n hn)
      rw [hs.distinct j k m hm (same ▸ hn)]

/-- The candidates of R55's second preference: COMPLETE, and not the newest. -/
theorem StoreSound.replaceable_iff (hs : StoreSound st) : st.replaceable k = true ↔ ∃ m, Superseded st k m := by
  have newer {m : Nat} (hm : CompleteAs (st.slot k) m) : st.newest ≠ some k ↔ ∃ j l, CompleteAs (st.slot j) l ∧ m < l := by
    rw [Ne, hs.newest_iff, NewestComplete]
    constructor
    · intro hn
      by_contra hall
      push Not at hall
      exact hn ⟨m, hm, hall⟩
    · rintro ⟨j, l, hl, hlt⟩ ⟨n, hn, greatest⟩
      have same : n = m := Option.some.inj ((number?_eq_some.2 hn).symm.trans (number?_eq_some.2 hm))
      have := greatest j l hl
      omega
  rw [Store.replaceable, Bool.and_eq_true, Bool.and_eq_true, candidate_iff, decide_eq_true_eq, Option.isSome_iff_exists]
  constructor
  · rintro ⟨⟨hc, m, hm⟩, hn⟩
    rw [number?_eq_some] at hm
    exact ⟨m, hc, hm, (newer hm).1 hn⟩
  · rintro ⟨m, hc, hm, hj⟩
    exact ⟨⟨hc, m, number?_eq_some.2 hm⟩, (newer hm).2 hj⟩

/-- The first preference: the lowest EMPTY or DAMAGED candidate. -/
theorem choice_vacant (hk : Vacant (st.slot k)) (lowest : ∀ j, j < k → ¬ Vacant (st.slot j)) : st.choice = some (k, false) := by
  have found : (List.finRange 3).find? (fun k => (st.slot k).candidate && (st.slot k).spare) = some k := by
    refine List.find?_eq_some_iff_getElem.2 ⟨vacant_iff.2 hk, k.val, by simp, by simp, fun j hj => ?_⟩
    have below := lowest ⟨j, by omega⟩ hj
    rw [← vacant_iff, Bool.not_eq_true] at below
    simpa only [Bool.not_eq_true', List.getElem_finRange, Fin.cast_mk] using below
  rw [Store.choice, found]

section NoVacant

variable (none : ∀ j, ¬ Vacant (st.slot j))
include none

theorem find_vacant_none : (List.finRange 3).find? (fun k => (st.slot k).candidate && (st.slot k).spare) = Option.none :=
  List.find?_eq_none.2 fun k _ hk => none k (vacant_iff.1 hk)

/-- The second preference: the oldest of the COMPLETE candidates but the newest. -/
theorem choice_superseded (hs : StoreSound st) (hk : Superseded st k m) (oldest : ∀ j l, Superseded st j l → m ≤ l) :
    st.choice = some (k, false) := by
  have number {j : Fin 3} {l : Nat} (hj : Superseded st j l) : (st.slot j).number? = some l := number?_eq_some.2 hj.2.1
  have found : st.oldest = some k := by
    cases ho : st.oldest with
    | none =>
      have := List.find?_eq_none.1 ho k (List.mem_finRange k)
      refine absurd (Bool.and_eq_true_iff.2 ⟨hs.replaceable_iff.2 ⟨m, hk⟩, List.all_eq_true.2 fun j _ => ?_⟩) this
      by_cases hj : st.replaceable j = true
      · obtain ⟨l, hl⟩ := hs.replaceable_iff.1 hj
        simpa [number hk, number hl, hj] using oldest j l hl
      · simp [hj]
    | some j =>
      obtain ⟨hj, lower⟩ := Bool.and_eq_true_iff.1 (List.find?_some (p := fun k => st.replaceable k && _) ho)
      obtain ⟨l, hl⟩ := hs.replaceable_iff.1 hj
      have := List.all_eq_true.1 lower k (List.mem_finRange k)
      simp only [hs.replaceable_iff.2 ⟨m, hk⟩, number hk, number hl, Bool.not_true, Bool.false_or, decide_eq_true_eq,
        Option.getD_some] at this
      have same : l = m := Nat.le_antisymm this (oldest j l hl)
      rw [hs.distinct j k l (number hl) (same ▸ number hk)]
  simp only [Store.choice, find_vacant_none none, found]

/-- The last preference: the newest, whose frame is lost. -/
theorem choice_newest (hs : StoreSound st) (superseded : ∀ j m, ¬ Superseded st j m) (hc : Candidate (st.slot k))
    (hm : CompleteAs (st.slot k) m) : st.choice = some (k, true) := by
  have oldest : st.oldest = Option.none := List.find?_eq_none.2 fun k _ hk => by
    obtain ⟨l, hl⟩ := hs.replaceable_iff.1 (Bool.and_eq_true_iff.1 hk).1
    exact superseded k l hl
  have newest : st.newest = some k := by
    refine hs.newest_iff.2 ⟨m, hm, fun j l hl => ?_⟩
    by_contra hlt
    exact superseded k m ⟨hc, hm, j, l, hl, Nat.not_le.1 hlt⟩
  simp only [Store.choice, find_vacant_none none, oldest, newest, candidate_iff.2 hc, if_true]

end NoVacant

/-- Without a candidate no slot is chosen (R56). -/
theorem choice_none (none : ∀ j, ¬ Candidate (st.slot j)) : st.choice = Option.none := by
  cases hc : st.choice with
  | none => rfl
  | some kl => exact absurd (candidate_iff.1 (choice_candidate (k := kl.1) (lost := kl.2) hc)) (none kl.1)

/-! ### The frame that is begun -/

theorem chooseSlot_begun {width height cells : Nat} (hc : st.choice = some (k, false)) :
    chooseSlot i tag width height cells (u.setStore i st)
      = u.setStore i (withFrame st k ⟨.filling, tag, width, height, cells, 0⟩) := by
  simp only [chooseSlot, store_setStore, hc, setStore_setStore]
  rfl

theorem chooseSlot_lost {width height cells : Nat} (hc : st.choice = some (k, true)) :
    chooseSlot i tag width height cells (u.setStore i st) = raised 5 (u.setStore i
      { withFrame st k ⟨.filling, tag, width, height, cells, 0⟩ with dropped := bumped st.dropped }) := by
  simp only [chooseSlot, store_setStore, hc, setStore_setStore, if_true, Store.dropFrame, ← bumped_eq]
  rfl

theorem chooseSlot_dropped {width height cells : Nat} (hc : st.choice = none) :
    chooseSlot i tag width height cells (u.setStore i st)
      = raised 5 (u.setStore i { st with dropped := bumped st.dropped, dropping := true }) := by
  simp only [chooseSlot, store_setStore, hc, setStore_setStore, Store.dropFrame, ← bumped_eq]
  rfl

/-- Settles O39: the four outcomes of R55's choice, in its order of preference. -/
theorem frameOpenChoosesASlot : Obligations.FrameOpenChoosesASlot := by
  intro sb tag w h n tick s src i link hsrc hi hr legal u st ready
  have bound : (s.store i).binding ≠ none := by rw [hi.1]; simp
  have seen : (openSeen src tag w h tick s).store i = s.store i := openSeen_store src tag w h tick s i
  have sound : StoreSound st :=
    ready_sound (s := openSeen src tag w h tick s) (by rw [seen]; exact storeLegal_iff.1 legal) (by rw [seen]; exact bound) ready
  have readyGood : OpenReady i (openSeen src tag w h tick s.goodCell) u.goodCell st := by
    rw [openSeen_goodCell]
    exact ready.imp (fun ⟨h1, h2, h3⟩ => ⟨h1, h2 ▸ rfl, h3⟩) fun ⟨k, f, h1, h2, h3⟩ => ⟨k, f, h1, h2 ▸ rfl, h3⟩
  have taken : takeOpen sb tag w h n tick s.goodCell = chooseSlot i tag w.toNat h.toNat n.toNat (u.goodCell.setStore i st) := by
    rw [takeOpen_ready (s := s.goodCell) hsrc hi hr, ready_eq readyGood]
  refine ⟨fun k hk lowest => onForwarded_sync link (taken.trans (chooseSlot_begun (choice_vacant hk lowest))), fun none =>
    ⟨fun k m hk oldest => onForwarded_sync link (taken.trans (chooseSlot_begun (choice_superseded none sound hk oldest))),
      fun superseded => ⟨fun k m hc hm => onForwarded_sync link ?_, fun noCandidate => onForwarded_sync link ?_⟩⟩⟩
  · exact taken.trans (chooseSlot_lost (choice_newest none sound superseded hc hm))
  · exact taken.trans (chooseSlot_dropped (choice_none noCandidate))

end Sys2Proof.Proofs
end

section
/-! PROOFS. Parts of an output frame end taken as steps of their own (R66, R78, R146). -/

namespace Sys2Proof.Proofs

open Sys2Proof.Machine Sys2Proof.Claims Sys2Proof.Safety

variable {s : State} {i : Fin 8} {src : Fin 16}

/-! ### STM counts silence for one store -/

/-- A store that goes STALE: it was LIVE (R66). -/
theorem countSilence_stale (hb : (s.store i).binding = some src) (hs : GoesStale s i) : countSilence i s
    = leftLive src (raised 6 (s.setStore i { s.store i with silence := silenceAfter s i, state := .stale })) := by
  obtain ⟨-, -, live, hold, loss⟩ := hs
  have state : silenceState s.limits .live (silenceAfter s i) = .stale := by
    simp only [silenceState, if_neg (Nat.not_le.2 loss), if_pos hold]
  have next : silenceNext s.limits.loss (s.store i).silence = silenceAfter s i := rfl
  simp only [countSilence, hb, live, next, state, ← leaveLive_eq]
  rfl

/-- A LIVE store that goes LOST (R66). -/
theorem countSilence_lost (hb : (s.store i).binding = some src) (hs : GoesLost s i) (live : (s.store i).state = .live) :
    countSilence i s
      = leftLive src (raised 7 (s.setStore i { s.store i with silence := silenceAfter s i, state := .lost })) := by
  obtain ⟨-, -, -, loss⟩ := hs
  have state : silenceState s.limits .live (silenceAfter s i) = .lost := by simp only [silenceState, if_pos loss]
  have next : silenceNext s.limits.loss (s.store i).silence = silenceAfter s i := rfl
  simp only [countSilence, hb, live, next, state, ← leaveLive_eq]
  rfl

/-- A STALE store that goes LOST (R66). -/
theorem countSilence_stale_lost (hb : (s.store i).binding = some src) (hs : GoesLost s i) (stale : (s.store i).state = .stale) :
    countSilence i s = raised 7 (s.setStore i { s.store i with silence := silenceAfter s i, state := .lost }) := by
  obtain ⟨-, -, -, loss⟩ := hs
  have state : silenceState s.limits .stale (silenceAfter s i) = .lost := by simp only [silenceState, if_pos loss]
  have next : silenceNext s.limits.loss (s.store i).silence = silenceAfter s i := rfl
  simp only [countSilence, hb, stale, next, state]
  rfl

/-- A step of its own is due for a store that goes STALE. -/
theorem silenceDue_stale (running : s.rgu.scan = .running) (hs : GoesStale s i) : silenceDue i [.live] .stale s = true := by
  obtain ⟨unmarked, bound, live, hold, loss⟩ := hs
  have state : silenceState s.limits .live (silenceAfter s i) = .stale := by
    simp only [silenceState, if_neg (Nat.not_le.2 loss), if_pos hold]
  have next : silenceNext s.limits.loss (s.store i).silence = silenceAfter s i := rfl
  simp [silenceDue, running, State.marked, unmarked, Option.isSome_iff_ne_none, bound, live, next, state]

/-- A step of its own is due for a store that goes LOST. -/
theorem silenceDue_lost (running : s.rgu.scan = .running) (hs : GoesLost s i) : silenceDue i [.live, .stale] .lost s = true := by
  obtain ⟨unmarked, bound, before, loss⟩ := hs
  have next : silenceNext s.limits.loss (s.store i).silence = silenceAfter s i := rfl
  have state : silenceState s.limits (s.store i).state (silenceAfter s i) = .lost := by
    rcases before with h | h <;> simp only [h, silenceState, if_pos loss]
  simp [silenceDue, running, State.marked, unmarked, Option.isSome_iff_ne_none, bound, before, next, state]

/-! ### SVU and TXU -/

theorem surveyCount_last {v : Survey} (hr : v.state = .running) (hl : v.framesLeft ≤ 1) :
    surveyCount v = { v with state := .done, framesLeft := 0 } := by
  have none : v.framesLeft - 1 = 0 := by omega
  simp only [surveyCount, hr, if_pos hl, none]

/-- Settles O44: each event's trigger holds, and its work is the part's. -/
theorem frameEndStepsOfTheirOwn : Obligations.FrameEndStepsOfTheirOwn := by
  intro s running
  refine ⟨fun unmarked hr hl => ?_, fun o w x unmarked hx hlast => ?_, fun i src hb => ⟨fun hs => ?_, fun hs live => ?_,
    fun hs stale => ?_⟩⟩
  · have due : s.rgu.scan = .running ∧ s.marked .survey = false ∧ s.survey.state = .running ∧ s.survey.framesLeft ≤ 1 :=
      ⟨running, decide_eq_false unmarked, hr, hl⟩
    show execSurveyDone s = _
    rw [execSurveyDone, if_pos due, surveyCount_last hr hl]
  · have last : (s.transition o w).lastFrame = true := by
      rw [hx]
      exact decide_eq_true hlast
    have due : s.rgu.scan = .running ∧ s.marked (.transition o w) = false ∧ (s.transition o w).lastFrame :=
      ⟨running, decide_eq_false unmarked, last⟩
    show execTransitionEnd o w s = _
    rw [execTransitionEnd, if_pos due]
  · show execSourceStale i s = _
    rw [execSourceStale, silenceMove, if_pos (silenceDue_stale running hs), countSilence_stale hb hs]
  · show execSourceLost i s = _
    rw [execSourceLost, silenceMove, if_pos (silenceDue_lost running hs), countSilence_lost hb hs live]
  · show execSourceLost i s = _
    rw [execSourceLost, silenceMove, if_pos (silenceDue_lost running hs), countSilence_stale_lost hb hs stale]

end Sys2Proof.Proofs
end

section
/-! PROOFS. The output frame end, in any order of its blocks: what the parts but STM's silence count leave as it is (R62, R66, R68). -/

namespace Sys2Proof.Proofs

open Sys2Proof.Machine Sys2Proof.Claims Sys2Proof.Safety

variable {s t u : State} {st x : Store} {i : Fin 8} {k : Fin 3}

/-! ### Conditions and marks -/

/-- No condition and no silence mark changes. -/
structure Quiet (s t : State) : Prop where
  conditions : t.conditions = s.conditions
  marks : ∀ i, FrameEndMark.silence i ∈ t.early ↔ FrameEndMark.silence i ∈ s.early

theorem Quiet.same (hc : t.conditions = s.conditions) (he : t.early = s.early) : Quiet s t := ⟨hc, fun i => by rw [he]⟩

theorem Quiet.refl (s : State) : Quiet s s := .same rfl rfl

/-- The last step first. -/
theorem Quiet.after (k : Quiet t u) (h : Quiet s t) : Quiet s u :=
  ⟨k.conditions.trans h.conditions, fun i => (k.marks i).trans (h.marks i)⟩

theorem Quiet.ite {c : Prop} [Decidable c] (h : Quiet s t) (k : Quiet s u) : Quiet s (if c then t else u) := by
  split
  · exact h
  · exact k

theorem Quiet.foldl {α : Type} {f : State → α → State} (h : ∀ s x, Quiet s (f s x)) (xs : List α) (s : State) :
    Quiet s (xs.foldl f s) := by
  induction xs generalizing s with
  | nil => exact .refl s
  | cons x xs ih => exact .after (ih _) (h s x)

theorem setOutput_quiet (o : Fin 4) (x : Output) (s : State) : Quiet s (s.setOutput o x) := .same rfl rfl

theorem setTransition_quiet (o : Fin 4) (w : Fin 8) (x : TransitionRecord) (s : State) : Quiet s (s.setTransition o w x) :=
  .same rfl rfl

theorem setList_quiet (r : Fin 4) (x : RotationList) (s : State) : Quiet s (s.setList r x) := .same rfl rfl

theorem selectStore_quiet (i : Fin 8) (s : State) : Quiet s (selectStore i s) := .ite (.same rfl rfl) (.refl s)

theorem takeFreeze_quiet (o : Fin 4) (w i : Fin 8) (k : Fin 3) (shared : Bool) (s : State) : Quiet s (takeFreeze o w i k shared s) :=
  .same rfl rfl

theorem releaseFreeze_quiet (o : Fin 4) (w : Fin 8) (s : State) : Quiet s (releaseFreeze o w s) := by
  unfold releaseFreeze
  split
  all_goals exact .same rfl rfl

theorem swapWindow_quiet (o : Fin 4) (s : State) (w : Fin 8) : Quiet s (swapWindow o s w) := by
  have decided (new : Option WindowRecord) (s : State) : Quiet s (swapFreeze new o w s) := by
    rw [swapFreeze_eq]
    exact .ite (.refl s) (releaseFreeze_quiet o w s)
  exact .after (decided _ _) (.same rfl rfl)

theorem swapOutput_quiet (o : Fin 4) (s : State) : Quiet s (swapOutput o s) :=
  .ite (.after (setOutput_quiet o _ _) (.foldl (swapWindow_quiet o) _ s)) (.refl s)

/-- A start leaves the mark of a transition only. -/
theorem askStart_quiet (r : Fin 4) (b : Shown) (style : Style) (duration : Nat) (s : State) (ow : Fin 4 × Fin 8) :
    Quiet s (askStart r b style duration s ow) := by
  unfold askStart
  split
  · exact .refl s
  · refine .ite (.refl s) (.ite (setTransition_quiet _ _ _ s) ⟨rfl, fun i => ?_⟩)
    simp

theorem askStarts_quiet (r : Fin 4) (b : Shown) (style : Style) (duration : Nat) (s : State) :
    Quiet s (askStarts r b style duration s) := .foldl (askStart_quiet r b style duration) _ s

theorem advanceList_quiet (r : Fin 4) (s : State) : Quiet s (advanceList r s) := by
  simp only [advanceList]
  split
  · exact setList_quiet _ _ s
  · exact .after (setList_quiet _ _ _) (askStarts_quiet _ _ _ _ s)

theorem applyStaged_quiet (r : Fin 4) (st : StagedList) (s : State) : Quiet s (applyStaged r st s) := by
  unfold applyStaged
  split
  · exact setList_quiet _ _ s
  · exact .after (setList_quiet _ _ _) (askStarts_quiet _ _ _ _ s)

theorem listFrameEnd_quiet (r : Fin 4) (s : State) : Quiet s (listFrameEnd r s) := by
  simp only [listFrameEnd]
  split
  · exact applyStaged_quiet r _ s
  · exact .ite (.refl s) (.ite (advanceList_quiet r s) (setList_quiet _ _ s))

theorem takeArmed_quiet (o : Fin 4) (w : Fin 8) (s : State) : Quiet s (takeArmed o w s) := by
  unfold takeArmed
  split
  · have selected := selectStore_quiet ‹Fin 8› s
    simp only
    split
    · exact selected
    · refine .ite ?_ selected
      split
      · exact .after (takeFreeze_quiet _ _ _ _ _ _) selected
      · exact .after (takeFreeze_quiet _ _ _ _ _ _) selected
      · exact selected
  · exact .refl s

/-- Only STM's silence count and RGU's parts set a condition at an output frame end. -/
theorem framePart_quiet {x : FrameEndPart} (hx : x ≠ .silence ∧ x ≠ .raster ∧ x ≠ .genlock) (s : State) : Quiet s (framePart x s) := by
  obtain ⟨h1, h2, h3⟩ := hx
  cases x with
  | silence => exact absurd rfl h1
  | raster => exact absurd rfl h2
  | genlock => exact absurd rfl h3
  | selection => exact .foldl (fun s i => selectStore_quiet i s) _ s
  | swap => exact .foldl (fun s o => swapOutput_quiet o s) _ s
  | transitions => exact .same rfl rfl
  | lists => exact .foldl (fun s r => .ite (.refl s) (listFrameEnd_quiet r s)) _ s
  | freezes =>
    rw [framePart, freezePart]
    generalize allWindows = windows
    exact .foldl (fun s ow => takeArmed_quiet ow.1 ow.2 s) windows s
  | survey => exact .ite (.refl s) (.same rfl rfl)
  | count => exact .same rfl rfl

/-! ### The stores, but for their pins and selections -/

/-- All of a store but its slots' pins and which of them is selected. -/
def framed (st : Store) : Store := { st with slots := tmap (fun _ r => ⟨r.frame, false, 0⟩) st.slots }

theorem framed_slot (st : Store) (k : Fin 3) : (framed st).slot k = ⟨(st.slot k).frame, false, 0⟩ := by
  rw [Store.slot, framed, tget_tmap, Store.slot]

theorem framed_of_slots (h : ∀ k, (x.slot k).frame = (st.slot k).frame) (hx : x = { st with slots := x.slots }) :
    framed x = framed st := by
  have slots : (framed x).slots = (framed st).slots := table_ext fun k => by
    show (framed x).slot k = (framed st).slot k
    rw [framed_slot, framed_slot, h]
  rw [hx] at slots ⊢
  exact congrArg (fun v => { st with slots := v }) slots

theorem framed_unpinned (st : Store) : framed (unpinned st) = framed st :=
  framed_of_slots (fun k => by rw [unpinned_slot]) rfl

theorem framed_select (st : Store) : framed st.select = framed st := framed_of_slots (fun k => by rw [select_slot]) rfl

/-- The stores stay, but for their pins and selections. -/
structure FramedAlike (s t : State) : Prop where
  framed : ∀ i, Proofs.framed (t.store i) = Proofs.framed (s.store i)

theorem FramedAlike.refl (s : State) : FramedAlike s s := ⟨fun _ => rfl⟩

/-- The last step first. -/
theorem FramedAlike.after (k : FramedAlike t u) (h : FramedAlike s t) : FramedAlike s u :=
  ⟨fun i => (k.framed i).trans (h.framed i)⟩

theorem FramedAlike.foldl {α : Type} {f : State → α → State} (h : ∀ s x, FramedAlike s (f s x)) (xs : List α) (s : State) :
    FramedAlike s (xs.foldl f s) := by
  induction xs generalizing s with
  | nil => exact .refl s
  | cons x xs ih => exact .after (ih _) (h s x)

theorem StoresAlike.framed (h : StoresAlike s t) : FramedAlike s t :=
  ⟨fun i => by rw [← framed_unpinned, h.stores, framed_unpinned]⟩

theorem selectStore_framed (i : Fin 8) (s : State) : FramedAlike s (selectStore i s) := by
  unfold selectStore
  split
  · refine ⟨fun j => ?_⟩
    rw [State.setStore_store]
    split
    · subst_vars; exact framed_select _
    · rfl
  · exact .refl s

theorem takeArmed_framed (o : Fin 4) (w : Fin 8) (s : State) : FramedAlike s (takeArmed o w s) := by
  unfold takeArmed
  split
  · have selected := selectStore_framed ‹Fin 8› s
    simp only
    split
    · exact selected
    · split
      · split
        · exact .after (takeFreeze_alike _ _ _ _ _ _).framed selected
        · exact .after (takeFreeze_alike _ _ _ _ _ _).framed selected
        · exact selected
      · exact selected
  · exact .refl s

theorem framePart_framed {x : FrameEndPart} (hx : x ≠ .silence) (s : State) : FramedAlike s (framePart x s) := by
  cases x with
  | silence => exact absurd rfl hx
  | selection => exact .foldl (fun s i => selectStore_framed i s) _ s
  | freezes =>
    rw [framePart, freezePart]
    generalize allWindows = windows
    exact .foldl (fun s ow => takeArmed_framed ow.1 ow.2 s) windows s
  | swap | transitions | lists | survey | count | raster | genlock => exact (framePart_alike (by simp) s).framed

/-! ### What the parts but the silence count leave -/

/-- What the silence count reads and writes stays, but for LOCK_CHANGE: it is set if genlock leaves LOCKED. -/
structure Still (s t : State) : Prop where
  limits : t.limits = s.limits
  marks : ∀ i, FrameEndMark.silence i ∈ t.early ↔ FrameEndMark.silence i ∈ s.early
  stores : FramedAlike s t
  conditions : ∀ n, n ≠ 8 → t.conditions.getLsbD n = s.conditions.getLsbD n
  lockChange : s.conditions.getLsbD 8 = true → t.conditions.getLsbD 8 = true
  free : t.rgu.genlock = .free ↔ s.rgu.genlock = .free
  locked : s.rgu.genlock = .locked → t.rgu.genlock = .locked ∨ t.conditions.getLsbD 8 = true
  reference : t.rgu.reference = s.rgu.reference
  freed : freed s.rgu = s.rgu → freed t.rgu = t.rgu

theorem Still.refl (s : State) : Still s s :=
  ⟨rfl, fun _ => Iff.rfl, .refl s, fun _ _ => rfl, id, Iff.rfl, .inl, rfl, id⟩

/-- The last step first. -/
theorem Still.after (k : Still t u) (h : Still s t) : Still s u where
  limits := k.limits.trans h.limits
  marks i := (k.marks i).trans (h.marks i)
  stores := k.stores.after h.stores
  conditions n hn := (k.conditions n hn).trans (h.conditions n hn)
  lockChange hs := k.lockChange (h.lockChange hs)
  free := k.free.trans h.free
  locked hs := (h.locked hs).elim k.locked fun h8 => .inr (k.lockChange h8)
  reference := k.reference.trans h.reference
  freed hs := k.freed (h.freed hs)

theorem Still.quiet (hl : t.limits = s.limits) (hq : Quiet s t) (hf : FramedAlike s t) (hr : t.rgu = s.rgu) : Still s t where
  limits := hl
  marks := hq.marks
  stores := hf
  conditions n _ := by rw [hq.conditions]
  lockChange h := hq.conditions ▸ h
  free := by rw [hr]
  locked h := .inl (by rw [hr]; exact h)
  reference := by rw [hr]
  freed h := by rw [hr]; exact h

/-! ### Bits of the conditions -/

theorem raise_bit (c : Condition) (s : State) (n : Nat) :
    (s.raise c).conditions.getLsbD n = (s.conditions.getLsbD n || decide (n = c.bit)) := by
  have small : c.bit < 12 := by cases c <;> decide
  have one : c.mask.getLsbD n = decide (n = c.bit) := by
    rw [Condition.mask, BitVec.getLsbD_twoPow, decide_eq_true small, Bool.true_and]
    exact decide_eq_decide.2 eq_comm
  show (s.conditions ||| c.mask).getLsbD n = _
  rw [BitVec.getLsbD_or, one]

theorem raiseIf_bit (b : Bool) (c : Condition) (s : State) (n : Nat) :
    (s.raiseIf b c).conditions.getLsbD n = (s.conditions.getLsbD n || (b && decide (n = c.bit))) := by
  cases b
  · simp [State.raiseIf]
  · rw [State.raiseIf, if_pos rfl, raise_bit, Bool.true_and]

/-- RGU is written, with LOCK_CHANGE where genlock leaves LOCKED. -/
theorem Still.rgu {g : Rgu} {b : Bool} (free : g.genlock = .free ↔ s.rgu.genlock = .free) (reference : g.reference = s.rgu.reference)
    (locked : s.rgu.genlock = .locked → g.genlock = .locked ∨ b = true) (freed : Proofs.freed s.rgu = s.rgu → Proofs.freed g = g) :
    Still s ((s.setRgu g).raiseIf b .lockChange) := by
  have rgu : ((s.setRgu g).raiseIf b .lockChange).rgu = g := by simp
  have bit (n : Nat) : ((s.setRgu g).raiseIf b .lockChange).conditions.getLsbD n = (s.conditions.getLsbD n || (b && decide (n = 8))) :=
    raiseIf_bit b .lockChange (s.setRgu g) n
  refine ⟨by simp, fun i => by simp, ⟨fun i => by simp [State.store]⟩, fun n hn => ?_, fun h => ?_, by rwa [rgu], fun h => ?_, by rwa [rgu],
    by rwa [rgu]⟩
  · rw [bit, decide_eq_false hn, Bool.and_false, Bool.or_false]
  · rw [bit, h]
    rfl
  · rw [rgu, bit]
    exact (locked h).imp id fun hb => by simp [hb]

theorem applyRaster_still (s : State) : Still s (applyRaster s) := by
  unfold applyRaster
  split
  · exact .refl s
  · rename_i r _
    split
    · exact Still.rgu (g := { s.rgu with raster := r, staged := none }) (b := false) Iff.rfl rfl .inl fun h => by
        have parts := congrArg (fun g : Rgu => { g with raster := r, staged := none }) h
        exact parts
    · rename_i hfree
      refine Still.rgu (by simp [hfree]) rfl (fun h => .inr (decide_eq_true h)) fun h => ?_
      exact absurd (congrArg Rgu.genlock h).symm hfree

/-- A used capture leaves genlock FREE or not FREE (R124). -/
theorem counted_free {g : GenlockState} (hg : g ≠ .free) (good bad : Nat) (e : Int) : (counted g good bad e).1 ≠ .free := by
  cases g with
  | free => exact absurd rfl hg
  | acquire | track | locked => simp only [counted]; split_ifs <;> simp

theorem genlockWork_still (s : State) : Still s (genlockWork s) := by
  unfold genlockWork
  simp only
  split
  · rename_i hfree
    refine Still.rgu (b := false) Iff.rfl rfl .inl fun h => ?_
    have parts := congrArg (fun g : Rgu => { g with nextCorr := 0, trim := 0, capture := none }) h
    exact parts
  · rename_i hfree
    refine Still.rgu (b := false) Iff.rfl rfl .inl fun h => ?_
    exact absurd (congrArg Rgu.genlock h).symm hfree
  · rename_i e _ hfree
    refine Still.rgu (iff_of_false (counted_free hfree _ _ _) hfree) rfl (fun h => ?_) fun h => ?_
    · by_cases same : (counted s.rgu.genlock s.rgu.goodCount s.rgu.badCount e).1 = .locked
      · exact .inl same
      · refine .inr (decide_eq_true ⟨?_, .inl h⟩)
        rw [h] at same ⊢
        exact fun e => same e.symm
    · exact absurd (congrArg Rgu.genlock h).symm hfree

theorem framePart_still {x : FrameEndPart} (hx : x ≠ .silence) (s : State) : Still s (framePart x s) := by
  have limits : (framePart x s).limits = s.limits := (framePart_touches x s) .limits (by cases x <;> decide)
  have framed := framePart_framed hx s
  cases x with
  | silence => exact absurd rfl hx
  | raster =>
    rw [framePart, rasterPart]
    split
    · exact .refl s
    · exact applyRaster_still s
  | genlock =>
    rw [framePart, genlockPart]
    split
    · exact .refl s
    · exact genlockWork_still s
  | count =>
    exact Still.rgu (b := false) Iff.rfl rfl .inl fun h => by
      have parts := congrArg (fun g : Rgu => { g with counter := wrapInc s.rgu.counter }) h
      exact parts
  | selection | swap | transitions | lists | freezes | survey =>
    exact .quiet limits (framePart_quiet (by simp) s) framed ((framePart_alters _ s) .rgu (by decide))

theorem frameParts_still {xs : List FrameEndPart} (hx : FrameEndPart.silence ∉ xs) (s : State) :
    Still s (xs.foldl (fun s x => framePart x s) s) := by
  induction xs generalizing s with
  | nil => exact .refl s
  | cons x xs ih =>
    obtain ⟨hne, hxs⟩ : FrameEndPart.silence ≠ x ∧ FrameEndPart.silence ∉ xs := by simpa using hx
    exact .after (ih hxs _) (framePart_still (Ne.symm hne) s)

end Sys2Proof.Proofs
end

section
/-! PROOFS. The silence count of an output frame end, store by store, and the selections after it (R53, R62, R66, R68, R125). -/

namespace Sys2Proof.Proofs

open Sys2Proof.Machine Sys2Proof.Claims Sys2Proof.Safety

variable {s t u : State} {st x : Store} {i j : Fin 8} {k : Fin 3} {src : Fin 16} {xs : List (Fin 8)}

/-! ### What the count of one store comes to -/

/-- A store after the silence count of an output frame end (R66); one that was counted by a command of its own stays. -/
def silenced (s : State) (i : Fin 8) : Store :=
  if FrameEndMark.silence i ∈ s.early ∨ (s.store i).binding = none then s.store i
  else { s.store i with silence := silenceAfter s i, state := silenceState s.limits (s.store i).state (silenceAfter s i) }

/-- The count takes the genlock reference's store `i` out of LIVE. -/
def LeavesLive (s : State) (i : Fin 8) : Prop :=
  (s.store i).binding = s.rgu.reference ∧ (s.store i).state = .live ∧ (GoesStale s i ∨ GoesLost s i)

/-- The silence counts of the stores `xs` take the genlock reference's store out of LIVE, while genlock is not FREE. -/
def ReferenceLeaves (xs : List (Fin 8)) (s : State) : Prop := s.rgu.genlock ≠ .free ∧ ∃ i ∈ xs, LeavesLive s i

/-- From `s` to `t` the silence of the stores `xs` has been counted. -/
structure Silenced (xs : List (Fin 8)) (s t : State) : Prop where
  limits : t.limits = s.limits
  early : t.early = s.early
  stores : ∀ j, t.store j = if j ∈ xs then silenced s j else s.store j
  stale : t.conditions.getLsbD 6 = true ↔ s.conditions.getLsbD 6 = true ∨ ∃ i ∈ xs, GoesStale s i
  lost : t.conditions.getLsbD 7 = true ↔ s.conditions.getLsbD 7 = true ∨ ∃ i ∈ xs, GoesLost s i
  referenceLost : t.conditions.getLsbD 9 = true ↔ s.conditions.getLsbD 9 = true ∨ ReferenceLeaves xs s
  freed : ReferenceLeaves xs s → t.rgu = Proofs.freed s.rgu
  kept : ¬ ReferenceLeaves xs s → t.rgu = s.rgu
  lockChange : s.conditions.getLsbD 8 = true → t.conditions.getLsbD 8 = true
  unlocked : ReferenceLeaves xs s → s.rgu.genlock = .locked → t.conditions.getLsbD 8 = true

/-! ### One store -/

theorem goesStale_iff (hm : FrameEndMark.silence i ∉ s.early) (hb : (s.store i).binding = some src) : GoesStale s i ↔
    silenceState s.limits (s.store i).state (silenceAfter s i) = .stale ∧ (s.store i).state ≠ .stale := by
  have bound : (s.store i).binding ≠ none := by simp [hb]
  rw [GoesStale]
  cases (s.store i).state <;> simp [hm, bound, silenceState]
  split_ifs <;> simp <;> omega

theorem goesLost_iff (hm : FrameEndMark.silence i ∉ s.early) (hb : (s.store i).binding = some src) : GoesLost s i ↔
    silenceState s.limits (s.store i).state (silenceAfter s i) = .lost ∧ (s.store i).state ≠ .lost := by
  have bound : (s.store i).binding ≠ none := by simp [hb]
  rw [GoesLost]
  cases (s.store i).state <;> simp [hm, bound, silenceState]
  split_ifs <;> simp

/-- A store leaves LIVE where it goes STALE or LOST (R66). -/
theorem leaves_iff (hm : FrameEndMark.silence i ∉ s.early) (hb : (s.store i).binding = some src) (live : (s.store i).state = .live) :
    silenceState s.limits (s.store i).state (silenceAfter s i) ≠ .live ↔ GoesStale s i ∨ GoesLost s i := by
  rw [goesStale_iff hm hb, goesLost_iff hm hb, live]
  unfold silenceState
  split_ifs <;> simp

/-- A store's silence is counted, with its conditions; RGU has not been told (R66). -/
def silenceNoted (i : Fin 8) (s : State) : State :=
  ((s.setStore i (silenced s i)).raiseIf (decide (GoesStale s i)) .sourceStale).raiseIf (decide (GoesLost s i)) .sourceLost

theorem silenceNoted_bit (i : Fin 8) (s : State) (n : Nat) : (silenceNoted i s).conditions.getLsbD n = (s.conditions.getLsbD n
    || (decide (GoesStale s i) && decide (n = 6)) || (decide (GoesLost s i) && decide (n = 7))) := by
  rw [silenceNoted, raiseIf_bit, raiseIf_bit]
  rfl

theorem silenceNoted_rgu (i : Fin 8) (s : State) : (silenceNoted i s).rgu = s.rgu := by simp [silenceNoted]

theorem silenceNoted_limits (i : Fin 8) (s : State) : (silenceNoted i s).limits = s.limits := by simp [silenceNoted]

theorem silenceNoted_early (i : Fin 8) (s : State) : (silenceNoted i s).early = s.early := by simp [silenceNoted]

theorem silenceNoted_store (i j : Fin 8) (s : State) : (silenceNoted i s).store j = if j ∈ [i] then silenced s j else s.store j := by
  rw [silenceNoted, State.raiseIf_store, State.raiseIf_store, State.setStore_store]
  by_cases h : i = j
  · subst h; simp
  · simp [h, Ne.symm h]

theorem referenceLoss_bit (s : State) (n : Nat) : (referenceLoss s).conditions.getLsbD n
    = (s.conditions.getLsbD n || decide (n = 9) || (decide (s.rgu.genlock = .locked) && decide (n = 8))) := by
  rw [referenceLoss, raiseIf_bit, raise_bit]
  rfl

theorem referenceLoss_limits (s : State) : (referenceLoss s).limits = s.limits := by simp [referenceLoss]

theorem referenceLoss_early (s : State) : (referenceLoss s).early = s.early := by simp [referenceLoss]

theorem referenceLoss_store (s : State) (j : Fin 8) : (referenceLoss s).store j = s.store j := by simp [referenceLoss]

/-- RGU is told of a store that leaves LIVE (R68). -/
theorem countSilence_eq (hm : FrameEndMark.silence i ∉ s.early) (hb : (s.store i).binding = some src) : countSilence i s
    = if (s.store i).state = .live ∧ silenceState s.limits (s.store i).state (silenceAfter s i) ≠ .live
      then leaveLive src (silenceNoted i s) else silenceNoted i s := by
  have next : silenceNext s.limits.loss (s.store i).silence = silenceAfter s i := rfl
  have store : silenced s i = { s.store i with
      silence := silenceAfter s i, state := silenceState s.limits (s.store i).state (silenceAfter s i) } :=
    if_neg (by simp [hm, hb])
  simp only [silenceNoted, store, goesStale_iff hm hb, goesLost_iff hm hb]
  simp only [countSilence, hb, next]

/-- The reference is lost at the count of a LIVE store that is bound to it (R125). -/
theorem referenceLeaves_iff (hm : FrameEndMark.silence i ∉ s.early) (hb : (s.store i).binding = some src) : ReferenceLeaves [i] s ↔
    ((s.store i).state = .live ∧ silenceState s.limits (s.store i).state (silenceAfter s i) ≠ .live)
      ∧ s.rgu.genlock ≠ .free ∧ s.rgu.reference = some src := by
  simp only [ReferenceLeaves, List.mem_singleton, exists_eq_left, LeavesLive, hb, eq_comm (a := some src)]
  constructor
  · rintro ⟨hfree, href, live, goes⟩
    exact ⟨⟨live, (leaves_iff hm hb live).2 goes⟩, hfree, href⟩
  · rintro ⟨⟨live, goes⟩, hfree, href⟩
    exact ⟨hfree, href, live, (leaves_iff hm hb live).1 goes⟩

theorem countSilence_leaves (hm : FrameEndMark.silence i ∉ s.early) (hb : (s.store i).binding = some src)
    (h : ReferenceLeaves [i] s) : countSilence i s = referenceLoss (silenceNoted i s) := by
  obtain ⟨leaves, reference⟩ := (referenceLeaves_iff hm hb).1 h
  rw [countSilence_eq hm hb, if_pos leaves, leaveLive, silenceNoted_rgu, if_pos reference]

theorem countSilence_stays (hm : FrameEndMark.silence i ∉ s.early) (hb : (s.store i).binding = some src)
    (h : ¬ ReferenceLeaves [i] s) : countSilence i s = silenceNoted i s := by
  rw [countSilence_eq hm hb]
  split
  · rename_i leaves
    rw [leaveLive, silenceNoted_rgu, if_neg fun reference => h ((referenceLeaves_iff hm hb).2 ⟨leaves, reference⟩)]
  · rfl

/-- Where no count is due nothing changes. -/
theorem Silenced.refl (h : FrameEndMark.silence i ∈ s.early ∨ (s.store i).binding = none) : Silenced [i] s s := by
  have notStale : ¬ GoesStale s i := fun hs => h.elim hs.1 hs.2.1
  have notLost : ¬ GoesLost s i := fun hs => h.elim hs.1 hs.2.1
  have stays : ¬ ReferenceLeaves [i] s := by
    rintro ⟨-, j, hj, -, -, hx⟩
    rw [List.mem_singleton.1 hj] at hx
    exact hx.elim notStale notLost
  refine ⟨rfl, rfl, fun j => ?_, by simp [notStale], by simp [notLost], by simp [stays], fun h => absurd h stays, fun _ => rfl, id,
    fun h => absurd h stays⟩
  split
  · rename_i hj
    rw [List.mem_singleton.1 hj, silenced, if_pos h]
  · rfl

/-- STM counts the silence of one store (R66, R68). -/
theorem countSilence_silenced (hm : FrameEndMark.silence i ∉ s.early) (hb : (s.store i).binding = some src) :
    Silenced [i] s (countSilence i s) := by
  by_cases h : ReferenceLeaves [i] s
  · rw [countSilence_leaves hm hb h]
    have bit (n : Nat) := (referenceLoss_bit (silenceNoted i s) n).trans (by rw [silenceNoted_bit, silenceNoted_rgu])
    refine ⟨by rw [referenceLoss_limits, silenceNoted_limits], by rw [referenceLoss_early, silenceNoted_early],
      fun j => by rw [referenceLoss_store, silenceNoted_store], ?_, ?_, ?_, fun _ => by rw [referenceLoss_rgu, silenceNoted_rgu],
      fun hn => absurd h hn, fun h8 => ?_, fun _ locked => ?_⟩ <;> rw [bit]
    · simp
    · simp
    · simp [h]
    · simp [h8]
    · simp [locked]
  · rw [countSilence_stays hm hb h]
    refine ⟨silenceNoted_limits i s, silenceNoted_early i s, fun j => silenceNoted_store i j s, ?_, ?_, ?_, fun hl => absurd hl h,
      fun _ => silenceNoted_rgu i s, fun h8 => ?_, fun hl => absurd hl h⟩ <;> rw [silenceNoted_bit]
    · simp
    · simp
    · simp [h]
    · simp [h8]

/-- The work of an output frame end on one store, if it has not been taken (R66, log 5). -/
def silenceStep (s : State) (i : Fin 8) : State := if s.marked (.silence i) then s else countSilence i s

theorem silenceStep_silenced (s : State) (i : Fin 8) : Silenced [i] s (silenceStep s i) := by
  unfold silenceStep
  split
  · rename_i hm
    exact .refl (.inl (of_decide_eq_true hm))
  · rename_i hm
    have unmarked : FrameEndMark.silence i ∉ s.early := fun h => hm (decide_eq_true h)
    cases hb : (s.store i).binding with
    | none =>
      have same : countSilence i s = s := by simp only [countSilence, hb]
      rw [same]
      exact .refl (.inr hb)
    | some src => exact countSilence_silenced unmarked hb

/-! ### One store after the other -/

/-- From `s` to `t` all stays that the count of store `i` is made from. -/
structure SilenceSame (i : Fin 8) (s t : State) : Prop where
  limits : t.limits = s.limits
  mark : FrameEndMark.silence i ∈ t.early ↔ FrameEndMark.silence i ∈ s.early
  binding : (t.store i).binding = (s.store i).binding
  state : (t.store i).state = (s.store i).state
  silence : (t.store i).silence = (s.store i).silence

theorem SilenceSame.after (h : SilenceSame i s t) : silenceAfter t i = silenceAfter s i := by
  rw [silenceAfter, silenceAfter, h.limits, h.silence]

theorem SilenceSame.stale (h : SilenceSame i s t) : GoesStale t i ↔ GoesStale s i := by
  rw [GoesStale, GoesStale, h.mark, h.binding, h.state, h.limits, h.after]

theorem SilenceSame.lost (h : SilenceSame i s t) : GoesLost t i ↔ GoesLost s i := by
  rw [GoesLost, GoesLost, h.mark, h.binding, h.state, h.limits, h.after]

theorem SilenceSame.leaves (h : SilenceSame i s t) (hr : t.rgu.reference = s.rgu.reference) : LeavesLive t i ↔ LeavesLive s i := by
  rw [LeavesLive, LeavesLive, h.stale, h.lost, h.binding, h.state, hr]

/-- The count of other stores leaves what store `j`'s is made from. -/
theorem Silenced.same (h : Silenced xs s t) (hj : j ∉ xs) : SilenceSame j s t := by
  have store : t.store j = s.store j := by rw [h.stores, if_neg hj]
  exact ⟨h.limits, by rw [h.early], by rw [store], by rw [store], by rw [store]⟩

theorem silenced_same (h : SilenceSame i s t) (hs : t.store i = s.store i) : silenced t i = silenced s i := by
  simp only [silenced, hs, h.mark, h.limits, h.after]

theorem exists_mem_cons_congr {p q : Fin 8 → Prop} (h : ∀ j ∈ xs, p j ↔ q j) : (q i ∨ ∃ j ∈ xs, p j) ↔ ∃ j ∈ i :: xs, q j := by
  rw [List.exists_mem_cons_iff]
  exact or_congr_right (exists_congr fun j => and_congr_right fun hj => h j hj)

/-- The count of one store, then of others. -/
theorem Silenced.cons (h : Silenced [i] s t) (k : Silenced xs t u) (hi : i ∉ xs) : Silenced (i :: xs) s u := by
  have other (j : Fin 8) (hj : j ∈ xs) : j ∉ [i] := by
    rw [List.mem_singleton]
    rintro rfl
    exact hi hj
  have same (j : Fin 8) (hj : j ∈ xs) : SilenceSame j s t := h.same (other j hj)
  have store (j : Fin 8) (hj : j ∈ xs) : t.store j = s.store j := by rw [h.stores, if_neg (other j hj)]
  -- once the reference is lost it cannot be lost again
  have leaves : ReferenceLeaves (i :: xs) s ↔ ReferenceLeaves [i] s ∨ ReferenceLeaves xs t := by
    by_cases first : ReferenceLeaves [i] s
    · refine iff_of_true ?_ (.inl first)
      obtain ⟨hfree, j, hj, hl⟩ := first
      exact ⟨hfree, j, List.mem_cons.2 (.inl (List.mem_singleton.1 hj)), hl⟩
    · have rgu := h.kept first
      have rest : (∃ j ∈ xs, LeavesLive t j) ↔ ∃ j ∈ xs, LeavesLive s j :=
        exists_congr fun j => and_congr_right fun hj => (same j hj).leaves (by rw [rgu])
      rw [ReferenceLeaves, ReferenceLeaves, ReferenceLeaves, rgu, rest, List.exists_mem_cons_iff, and_or_left]
      simp
  have once : ReferenceLeaves [i] s → ¬ ReferenceLeaves xs t := fun first again => again.1 (by rw [h.freed first]; rfl)
  refine ⟨k.limits.trans h.limits, k.early.trans h.early, fun j => ?_, ?_, ?_, ?_, fun hl => ?_, fun hl => ?_,
    fun h8 => k.lockChange (h.lockChange h8), fun hl locked => ?_⟩
  · rw [k.stores]
    by_cases hj : j ∈ xs
    · rw [if_pos hj, if_pos (List.mem_cons_of_mem i hj), silenced_same (same j hj) (store j hj)]
    · rw [if_neg hj, h.stores]
      simp [hj]
  · rw [k.stale, h.stale, ← exists_mem_cons_congr fun j hj => (same j hj).stale]
    simp [or_assoc]
  · rw [k.lost, h.lost, ← exists_mem_cons_congr fun j hj => (same j hj).lost]
    simp [or_assoc]
  · rw [k.referenceLost, h.referenceLost, leaves, or_assoc]
  · rcases leaves.1 hl with first | later
    · rw [k.kept (once first), h.freed first]
    · by_cases first : ReferenceLeaves [i] s
      · exact absurd later (once first)
      · rw [k.freed later, h.kept first]
  · obtain ⟨first, later⟩ := not_or.1 (mt leaves.2 hl)
    rw [k.kept later, h.kept first]
  · by_cases first : ReferenceLeaves [i] s
    · exact k.lockChange (h.unlocked first locked)
    · exact k.unlocked ((leaves.1 hl).resolve_left first) (by rw [h.kept first]; exact locked)

theorem silenceSteps_silenced (hn : xs.Nodup) (s : State) : Silenced xs s (xs.foldl silenceStep s) := by
  induction xs generalizing s with
  | nil =>
    have stays : ¬ ReferenceLeaves [] s := by rintro ⟨-, j, hj, -⟩; cases hj
    exact ⟨rfl, rfl, fun j => by simp, by simp, by simp, by simp [stays], fun h => absurd h stays, fun _ => rfl, id,
      fun h => absurd h stays⟩
  | cons x xs ih =>
    obtain ⟨hx, hxs⟩ := List.nodup_cons.1 hn
    exact (silenceStep_silenced s x).cons (ih hxs _) hx

theorem silencePart_silenced (s : State) : Silenced (List.finRange 8) s (silencePart s) :=
  silenceSteps_silenced (List.nodup_finRange 8) s

end Sys2Proof.Proofs
end

section
/-! PROOFS. The output frame end, in any order of its blocks: silence, the reference and the selections (R62, R66, R68, R125). -/

namespace Sys2Proof.Proofs

open Sys2Proof.Machine Sys2Proof.Claims Sys2Proof.Safety

variable {s t u : State} {st x y : Store} {i j : Fin 8} {k : Fin 3}

/-! ### The selections -/

/-- Just the newest slot of store `i` is selected (R62). -/
structure NewestSelected (i : Fin 8) (s : State) : Prop where
  selected_iff : ∀ k, ((s.store i).slot k).selected = true ↔ (s.store i).newest = some k

/-- The newest slot is read off the frames. -/
theorem newest_congr (h : ∀ k, (x.slot k).frame = (y.slot k).frame) : x.newest = y.newest := by
  have number (k : Fin 3) : (x.slot k).number? = (y.slot k).number? := by rw [SlotRecord.number?, h, SlotRecord.number?]
  simp only [Store.newest, number]

/-- The frames and the selections of store `i` stay. -/
theorem NewestSelected.of_slots (hs : NewestSelected i s) (h : ∀ k, ((t.store i).slot k).frame = ((s.store i).slot k).frame
    ∧ ((t.store i).slot k).selected = ((s.store i).slot k).selected) : NewestSelected i t := by
  refine ⟨fun k => ?_⟩
  rw [(h k).2, newest_congr fun k => (h k).1]
  exact hs.selected_iff k

theorem StoresAlike.newestSelected (h : StoresAlike s t) (hs : NewestSelected i s) : NewestSelected i t := hs.of_slots (h.slot i)

/-- The selection of a store takes its newest slot. -/
theorem selectStore_makes (bound : (s.store i).binding ≠ none) : NewestSelected i (selectStore i s) := by
  refine ⟨fun k => ?_⟩
  have own : (selectStore i s).store i = (s.store i).select := by
    rw [selectStore, if_pos (Option.isSome_iff_ne_none.2 bound), store_setStore]
  have newest : (s.store i).select.newest = (s.store i).newest := newest_congr fun k => by rw [select_slot]
  rw [own, newest, select_slot, decide_eq_true_eq]

theorem selectStore_keeps (j : Fin 8) (hs : NewestSelected i s) : NewestSelected i (selectStore j s) := by
  by_cases bound : (s.store j).binding = none
  · rw [selectStore, bound]
    exact hs
  · by_cases hj : j = i
    · subst hj
      exact selectStore_makes bound
    · rw [selectStore, if_pos (Option.isSome_iff_ne_none.2 bound)]
      exact hs.of_slots fun k => by rw [State.setStore_store, if_neg hj]; exact ⟨rfl, rfl⟩

theorem selectStore_binding (j : Fin 8) (s : State) (i : Fin 8) : ((selectStore j s).store i).binding = (s.store i).binding :=
  (selectStore_alters (l := []) j s) .bindings (by simp) i

theorem takeArmed_keeps (o : Fin 4) (w : Fin 8) (hs : NewestSelected i s) : NewestSelected i (takeArmed o w s) := by
  unfold takeArmed
  split
  · have selected := selectStore_keeps ‹Fin 8› hs
    simp only
    split
    · exact selected
    · split
      · split
        · exact (takeFreeze_alike _ _ _ _ _ _).newestSelected selected
        · exact (takeFreeze_alike _ _ _ _ _ _).newestSelected selected
        · exact selected
      · exact selected
  · exact hs

/-- A store's silence count leaves its slots. -/
theorem silenced_slot (s : State) (i : Fin 8) (k : Fin 3) : (silenced s i).slot k = (s.store i).slot k := by
  unfold silenced
  split <;> rfl

theorem silencePart_store (s : State) (i : Fin 8) : (silencePart s).store i = silenced s i := by
  rw [(silencePart_silenced s).stores, if_pos (List.mem_finRange i)]

theorem framePart_keeps (z : FrameEndPart) (hs : NewestSelected i s) : NewestSelected i (framePart z s) := by
  cases z with
  | silence => exact hs.of_slots fun k => by rw [framePart, silencePart_store, silenced_slot]; exact ⟨rfl, rfl⟩
  | selection => exact foldl_keeps (fun s j h => selectStore_keeps j h) _ hs
  | freezes =>
    rw [framePart, freezePart]
    generalize allWindows = windows
    exact foldl_keeps (P := NewestSelected i) (fun s ow h => takeArmed_keeps ow.1 ow.2 h) windows hs
  | swap | transitions | lists | survey | count | raster | genlock => exact (framePart_alike (by simp) s).newestSelected hs

/-- What every step keeps, and one step makes of what every step keeps, holds after steps among which that one is. -/
theorem foldl_makes {α : Type} {P Q : State → Prop} {f : State → α → State} {a : α} {l : List α} (ha : a ∈ l)
    (keepQ : ∀ s b, Q s → Q (f s b)) (keepP : ∀ s b, P s → P (f s b)) (make : ∀ s, Q s → P (f s a)) (hs : Q s) : P (l.foldl f s) := by
  induction l generalizing s with
  | nil => cases ha
  | cons b l ih =>
    rw [List.foldl_cons]
    by_cases h : a = b
    · subst h
      exact foldl_keeps keepP l (make s hs)
    · exact ih ((List.mem_cons.1 ha).resolve_left h) (keepQ s b hs)

/-- The selection part selects in every bound store. -/
theorem selectionPart_makes (bound : (s.store i).binding ≠ none) : NewestSelected i (selectionPart s) :=
  foldl_makes (Q := fun s => (s.store i).binding ≠ none) (f := fun s i => selectStore i s) (List.mem_finRange i)
    (fun s j h => by rw [selectStore_binding]; exact h) (fun s j h => selectStore_keeps j h) (fun s h => selectStore_makes h) bound

theorem framePart_binding (z : FrameEndPart) (s : State) (i : Fin 8) : ((framePart z s).store i).binding = (s.store i).binding :=
  (framePart_alters z s) .bindings (by cases z <;> decide) i

/-- A legal store that is not bound has no frame, and no slot is selected. -/
theorem unbound_newestSelected (hs : StoreSound (s.store i)) (free : (s.store i).binding = none) : NewestSelected i s := by
  have empty (k : Fin 3) : ((s.store i).slot k).number? = none := by
    rw [SlotRecord.number?, (hs.atRest free).2.2 k]
  refine ⟨fun k => iff_of_false (fun hk => ?_) fun hk => ?_⟩
  · have := hs.selected k hk
    rw [empty] at this
    cases this
  · have := newest_complete hk
    rw [empty] at this
    cases this

/-- After the parts of an output frame end just the newest slot of each store is selected. -/
theorem afterParts_newestSelected (order : List FrameEndPart) (hs : StoreSound (s.store i)) : NewestSelected i (afterParts order s) := by
  by_cases free : (s.store i).binding = none
  · exact foldl_keeps (fun s z h => framePart_keeps z h) _ (unbound_newestSelected hs free)
  · exact foldl_makes (Q := fun s => (s.store i).binding ≠ none) (mem_completeOrder order .selection)
      (fun s z h => by rw [framePart_binding]; exact h) (fun s z h => framePart_keeps z h) (fun s h => selectionPart_makes h) free

/-! ### Before and after the silence count -/

/-- The silence part stands once in the order, the other parts before and after it. -/
theorem afterParts_split (order : List FrameEndPart) (s : State) :
    ∃ before, Still s before ∧ Still (silencePart before) (afterParts order s) := by
  obtain ⟨xs, ys, horder⟩ := List.append_of_mem (mem_completeOrder order .silence)
  have once := completeOrder_nodup order
  rw [horder, List.nodup_append, List.nodup_cons] at once
  obtain ⟨-, ⟨notAfter, -⟩, apart⟩ := once
  have notBefore : FrameEndPart.silence ∉ xs := fun h => apart _ h _ List.mem_cons_self rfl
  refine ⟨xs.foldl (fun s z => framePart z s) s, frameParts_still notBefore s, ?_⟩
  rw [afterParts, horder, List.foldl_append, List.foldl_cons]
  exact frameParts_still notAfter _

/-- A store's frames. -/
theorem framed_frame (h : framed x = framed y) (k : Fin 3) : (x.slot k).frame = (y.slot k).frame := by
  have slot := congrArg (fun st => (st.slot k).frame) h
  simpa only [framed_slot] using slot

theorem Still.same (h : Still s t) (i : Fin 8) : SilenceSame i s t where
  limits := h.limits
  mark := h.marks i
  binding := by have same := congrArg Store.binding (h.stores.framed i); exact same
  state := by have same := congrArg Store.state (h.stores.framed i); exact same
  silence := by have same := congrArg Store.silence (h.stores.framed i); exact same

theorem Still.leaves (h : Still s t) : ReferenceLeaves (List.finRange 8) t ↔ s.rgu.genlock ≠ .free ∧ ReferenceGoes s := by
  rw [ReferenceLeaves, Ne, h.free]
  refine and_congr_right fun _ => exists_congr fun i => ?_
  rw [(h.same i).leaves h.reference]
  exact and_iff_right (List.mem_finRange i)

/-- All of a store but its silence count, its state and its slots. -/
def fixedPart (st : Store) : Option (Fin 16) × Nat × Bool × Nat × Nat × Nat × Nat :=
  (st.binding, st.completions, st.dropping, st.completed, st.dropped, st.damaged, st.stray)

theorem eq_of_fixedPart (h : fixedPart x = fixedPart y) : x = { y with silence := x.silence, state := x.state, slots := x.slots } := by
  cases x
  cases y
  simp_all [fixedPart]

theorem fixedPart_silenced (s : State) (i : Fin 8) : fixedPart (silenced s i) = fixedPart (s.store i) := by
  unfold silenced
  split <;> rfl

theorem fixedPart_framed (h : framed x = framed y) : fixedPart x = fixedPart y := by
  have same := congrArg fixedPart h
  exact same

/-- Where a store goes neither STALE nor LOST its state stays (R66). -/
theorem silenced_state (hs : ¬ GoesStale s i) (hl : ¬ GoesLost s i) : (silenced s i).state = (s.store i).state := by
  unfold silenced
  split
  · rfl
  · rename_i due
    obtain ⟨hm, hb⟩ := not_or.1 due
    obtain ⟨src, hb⟩ := Option.ne_none_iff_exists'.1 hb
    rw [goesStale_iff hm hb] at hs
    rw [goesLost_iff hm hb] at hl
    show silenceState s.limits (s.store i).state (silenceAfter s i) = (s.store i).state
    revert hs hl
    generalize (s.store i).state = a
    unfold silenceState
    split
    · split_ifs <;> simp
    · split_ifs <;> simp
    · simp

/-- A store whose silence count is due (R66). -/
theorem silenced_due (hm : FrameEndMark.silence i ∉ s.early) (hb : (s.store i).binding ≠ none) : silenced s i = { s.store i with
    silence := silenceAfter s i, state := silenceState s.limits (s.store i).state (silenceAfter s i) } :=
  if_neg (not_or.2 ⟨hm, hb⟩)

theorem silenced_stale (hs : GoesStale s i) : (silenced s i).state = .stale := by
  obtain ⟨src, hb⟩ := Option.ne_none_iff_exists'.1 hs.2.1
  rw [silenced_due hs.1 hs.2.1]
  exact ((goesStale_iff hs.1 hb).1 hs).1

theorem silenced_lost (hs : GoesLost s i) : (silenced s i).state = .lost := by
  obtain ⟨src, hb⟩ := Option.ne_none_iff_exists'.1 hs.2.1
  rw [silenced_due hs.1 hs.2.1]
  exact ((goesLost_iff hs.1 hb).1 hs).1

/-- What the count makes of a store is the same before and after the other parts, but for pins and selections. -/
theorem silenced_silence_state (h : SilenceSame i s t) :
    (silenced t i).silence = (silenced s i).silence ∧ (silenced t i).state = (silenced s i).state := by
  simp only [silenced, h.mark, h.binding, h.limits, h.after]
  split
  · exact ⟨h.silence, h.state⟩
  · exact ⟨rfl, by rw [h.state]⟩

section FrameEnd

variable (order : List FrameEndPart) (s : State)

/-- The stores after an output frame end, but for pins and selections: the silence counted once. -/
theorem frameEnd_store (i : Fin 8) : ((frameEnd order s).store i).silence = (silenced s i).silence
    ∧ ((frameEnd order s).store i).state = (silenced s i).state ∧ fixedPart ((frameEnd order s).store i) = fixedPart (s.store i)
    ∧ ∀ k, (((frameEnd order s).store i).slot k).frame = ((s.store i).slot k).frame := by
  obtain ⟨v, before, after⟩ := afterParts_split order s
  have last : (frameEnd order s).store i = (afterParts order s).store i := rfl
  obtain ⟨silence, state⟩ := silenced_silence_state (before.same i)
  have same := after.same i
  refine ⟨?_, ?_, ?_, fun k => ?_⟩
  · rw [last, same.silence, silencePart_store, silence]
  · rw [last, same.state, silencePart_store, state]
  · rw [last, fixedPart_framed (after.stores.framed i), silencePart_store, fixedPart_silenced, fixedPart_framed (before.stores.framed i)]
  · rw [last, framed_frame (after.stores.framed i), silencePart_store, silenced_slot, framed_frame (before.stores.framed i)]

/-- The conditions that STM's silence count sets at an output frame end. -/
theorem frameEnd_conditions :
    ((frameEnd order s).conditions.getLsbD 6 = true ↔ s.conditions.getLsbD 6 = true ∨ ∃ i, GoesStale s i)
    ∧ ((frameEnd order s).conditions.getLsbD 7 = true ↔ s.conditions.getLsbD 7 = true ∨ ∃ i, GoesLost s i)
    ∧ ((frameEnd order s).conditions.getLsbD 9 = true
      ↔ s.conditions.getLsbD 9 = true ∨ (s.rgu.genlock ≠ .free ∧ ReferenceGoes s)) := by
  obtain ⟨v, before, after⟩ := afterParts_split order s
  have counted := silencePart_silenced v
  have last : (frameEnd order s).conditions = (afterParts order s).conditions := rfl
  have all {p q : Fin 8 → Prop} (h : ∀ i, p i ↔ q i) : (∃ i ∈ List.finRange 8, p i) ↔ ∃ i, q i :=
    exists_congr fun i => (and_iff_right (List.mem_finRange i)).trans (h i)
  refine ⟨?_, ?_, ?_⟩
  · rw [last, after.conditions 6 (by decide), counted.stale, before.conditions 6 (by decide), all fun i => (before.same i).stale]
  · rw [last, after.conditions 7 (by decide), counted.lost, before.conditions 7 (by decide), all fun i => (before.same i).lost]
  · rw [last, after.conditions 9 (by decide), counted.referenceLost, before.conditions 9 (by decide), before.leaves]

/-- RGU after an output frame end at which the reference's store leaves LIVE (R125). -/
theorem frameEnd_freed (hfree : s.rgu.genlock ≠ .free) (hgoes : ReferenceGoes s) :
    freed (frameEnd order s).rgu = (frameEnd order s).rgu
    ∧ (s.rgu.genlock = .locked → (frameEnd order s).conditions.getLsbD 8 = true) := by
  obtain ⟨v, before, after⟩ := afterParts_split order s
  have counted := silencePart_silenced v
  have leaves := before.leaves.2 ⟨hfree, hgoes⟩
  have parts : freed (afterParts order s).rgu = (afterParts order s).rgu := after.freed (by rw [counted.freed leaves]; rfl)
  refine ⟨?_, fun locked => after.lockChange ?_⟩
  · have closed := congrArg (fun g : Rgu => { g with scan := .between, tick := (afterParts order s).rgu.length - 1 }) parts
    exact closed
  · exact (before.locked locked).elim (counted.unlocked leaves) counted.lockChange

end FrameEnd

/-- Settles O46, from what stands before and after the one silence count, and from the one selection. -/
theorem frameEndCountsSilenceAndSelects : Obligations.FrameEndCountsSilenceAndSelects := by
  intro order s running legal
  obtain ⟨stale, lost, referenceLost⟩ := frameEnd_conditions order s
  refine ⟨frameEnd order s, congrArg _ (if_pos running), stale, lost, referenceLost, fun hfree hgoes => ?_, fun i => ?_⟩
  · obtain ⟨freed, lock⟩ := frameEnd_freed order s hfree hgoes
    rw [← freed]
    exact ⟨rfl, rfl, rfl, rfl, rfl, rfl, rfl, rfl, lock⟩
  · obtain ⟨silence, state, fixed, frames⟩ := frameEnd_store order s i
    have sound : StoreSound (s.store i) := storeLegal_iff.1 (legal i)
    have selected : NewestSelected i (frameEnd order s) :=
      (afterParts_newestSelected order sound).of_slots (t := frameEnd order s) fun _ => ⟨rfl, rfl⟩
    refine ⟨eq_of_fixedPart fixed, fun h => ?_, fun hb hm => ?_, fun h => ?_, fun h => ?_, fun hs hl => ?_, fun k => ⟨frames k, ?_⟩⟩
    · rw [silence, silenced, if_pos h.symm]
    · rw [silence, silenced_due hm hb]
    · rw [state, silenced_stale h]
    · rw [state, silenced_lost h]
    · rw [state, silenced_state hs hl]
    · rw [selected.selected_iff, newest_congr frames, sound.newest_iff]

end Sys2Proof.Proofs
end

section
/-! PROOFS. STATUS, page by page (R71, R100, R128, R148, R171, R172, R177). -/

namespace Sys2Proof.Proofs

open Sys2Proof.Machine Sys2Proof.Claims Sys2Proof.Safety

variable {s : State} {i : Fin 8} {k : Fin 3}

/-! ### The numbers of the enumerations -/

theorem genlockNumber_eq (g : GenlockState) : g.number = genlockNumber g := by cases g <;> rfl

theorem sourceNumber_eq (x : SourceState) : x.number = sourceNumber x := by cases x <;> rfl

theorem surveyNumber_eq (v : SurveyState) : v.number = surveyNumber v := by cases v <;> rfl

theorem resetNumber_eq (c : ResetCause) : c.number = resetNumber c := by cases c <;> rfl

theorem slotNumber_eq (r : SlotRecord) : r.stateNumber = slotNumber r := by
  obtain ⟨frame, selected, pins⟩ := r
  rcases frame with _ | ⟨_ | _ | m | _, tag, width, height, cells, next⟩ <;> rfl

/-! ### Bytes of flags, and absent numbers -/

/-- A byte with a bit for each index of `l` at which `p` holds. -/
def flagBits {n : Nat} (p : Fin n → Bool) (l : List (Fin n)) (b : Byte) : Byte :=
  l.foldl (fun b o => if p o then b ||| BitVec.twoPow 8 o.val else b) b

theorem flagBits_getLsbD {n : Nat} (hn : n ≤ 8) (p : Fin n → Bool) (l : List (Fin n)) (b : Byte) (o : Fin n) :
    (flagBits p l b).getLsbD o.val = (b.getLsbD o.val || (decide (o ∈ l) && p o)) := by
  induction l generalizing b with
  | nil => simp [flagBits]
  | cons a l ih =>
    have bit : (if p a then b ||| BitVec.twoPow 8 a.val else b).getLsbD o.val = (b.getLsbD o.val || (decide (o = a) && p o)) := by
      by_cases h : o = a
      · subst h
        have small : o.val < 8 := by omega
        cases hp : p o <;> simp [small]
      · have other : ¬ a.val = o.val := fun e => h (Fin.ext e.symm)
        cases hp : p a <;> simp [h, other]
    show (flagBits p l _).getLsbD o.val = _
    rw [ih, bit]
    by_cases h : o = a
    · subst h
      cases p o <;> simp
    · simp [h]

/-- The byte of an outputs' property has its bits (§11.7). -/
theorem outputBits_getLsbD (s : State) (p : Output → Bool) (o : Fin 4) : (outputBits s p).getLsbD o.val = p (s.output o) := by
  have bits := flagBits_getLsbD (by decide) (fun o => p (s.output o)) (List.finRange 4) 0#8 o
  simp only [List.mem_finRange, decide_true, Bool.true_and, BitVec.getLsbD_zero, Bool.false_or] at bits
  exact bits

/-- The tag presence byte has its bits (§11.7). -/
theorem tagPresence_getLsbD (st : Store) (k : Fin 3) : (tagPresence st).getLsbD k.val = (st.slot k).frame.isSome := by
  have bits := flagBits_getLsbD (by decide) (fun k => (st.slot k).frame.isSome) (List.finRange 3) 0#8 k
  simp only [List.mem_finRange, decide_true, Bool.true_and, BitVec.getLsbD_zero, Bool.false_or] at bits
  exact bits

theorem orAbsent_some {n : Nat} (hn : n ≤ 256) (x : Fin n) : (orAbsent (some x)).toNat = x.val := by
  show (BitVec.ofNat 8 x.val).toNat = x.val
  rw [BitVec.toNat_ofNat]
  exact Nat.mod_eq_of_lt (by omega)

theorem conditionsHalf_eq (c : BitVec 12) : conditionsHalf c = c.setWidth 16 := by
  apply BitVec.eq_of_toNat_eq
  rw [conditionsHalf, toNat_append_eq, BitVec.toNat_setWidth, Nat.mod_eq_of_lt (by omega)]
  simp

/-! ### The pages -/

/-- A two-byte field that stands at byte `n`. -/
theorem halfAt_of_drop {l rest : List Byte} {n : Nat} {x : Half} (h : l.drop n = halfBytes x ++ rest) : halfAt l n = x := by
  have byte (m : Nat) : byteAt l (n + m) = byteAt (halfBytes x ++ rest) m := by rw [← h, byteAt_drop]
  rw [halfAt, byte 1, ← Nat.add_zero n, byte 0]
  exact halfAt_halfBytes x rest

/-- A four-byte field that stands at byte `n`. -/
theorem wordAt_of_drop {l rest : List Byte} {n : Nat} {x : Word} (h : l.drop n = wordBytes x ++ rest) : wordAt l n = x := by
  have byte (m : Nat) : byteAt l (n + m) = byteAt (wordBytes x ++ rest) m := by rw [← h, byteAt_drop]
  rw [wordAt, halfAt, halfAt, byte 1, byte 2, Nat.add_assoc, byte 3, ← Nat.add_zero n, byte 0]
  exact wordAt_wordBytes x rest

/-- The bytes of a store's page, in their order (§11.7). -/
theorem statusStore_eq (s : State) (i : Fin 8) : statusStore s i =
    orAbsent (s.store i).binding :: (s.store i).state.number :: (natHalf (s.store i).silence
      ++ ((s.store i).slot 0).stateNumber :: ((s.store i).slot 1).stateNumber :: ((s.store i).slot 2).stateNumber
      :: tagPresence (s.store i) :: ((s.store i).slot 0).tagByte :: ((s.store i).slot 1).tagByte :: ((s.store i).slot 2).tagByte
      :: byteOf ((s.store i).slot 0).pins :: byteOf ((s.store i).slot 1).pins :: byteOf ((s.store i).slot 2).pins
      :: orAbsent (s.store i).selectedSlot :: (natHalf (s.store i).completed ++ (natHalf (s.store i).dropped
      ++ (natHalf (s.store i).damaged ++ (natHalf (s.store i).stray ++ [byteOf (armedSharedCount s i)]))))) := by
  have slots : List.finRange 3 = [0, 1, 2] := rfl
  simp only [statusStore, slots, List.map_cons, List.map_nil, List.append_assoc, List.cons_append, List.nil_append]

/-- Pages 1 to 8. -/
theorem statusStore_reports (s : State) (i : Fin 8) : StorePage s i (statusStore s i) := by
  rw [statusStore_eq]
  generalize hr : orAbsent (s.store i).binding :: _ = r
  have states : ∀ k : Fin 3, byteAt r (4 + k.val) = ((s.store i).slot k).stateNumber := by
    subst hr
    exact fun | 0 => rfl | 1 => rfl | 2 => rfl
  have tags : ∀ k : Fin 3, byteAt r (8 + k.val) = ((s.store i).slot k).tagByte := by
    subst hr
    exact fun | 0 => rfl | 1 => rfl | 2 => rfl
  have pins : ∀ k : Fin 3, byteAt r (11 + k.val) = byteOf ((s.store i).slot k).pins := by
    subst hr
    exact fun | 0 => rfl | 1 => rfl | 2 => rfl
  have bound : byteAt r 0 = orAbsent (s.store i).binding := by rw [← hr]; rfl
  have state : byteAt r 1 = (s.store i).state.number := by rw [← hr]; rfl
  have presence : byteAt r 7 = tagPresence (s.store i) := by rw [← hr]; rfl
  have chosen : byteAt r 14 = orAbsent (s.store i).selectedSlot := by rw [← hr]; rfl
  have shared : byteAt r 23 = byteOf (armedSharedCount s i) := by rw [← hr]; rfl
  refine ⟨by rw [← hr]; rfl, fun h => ?_, fun src h => ?_, state.trans (sourceNumber_eq _), halfAt_of_drop (by rw [← hr]; rfl),
    fun k => ⟨(states k).trans (slotNumber_eq _), ?_, fun f hf => ?_, pins k⟩, fun k hk only => ?_, fun h => ?_,
    halfAt_of_drop (by rw [← hr]; rfl), halfAt_of_drop (by rw [← hr]; rfl), halfAt_of_drop (by rw [← hr]; rfl),
    halfAt_of_drop (by rw [← hr]; rfl), ?_⟩
  · rw [bound, h]
    rfl
  · rw [bound, h, orAbsent_some (by decide)]
  · rw [presence, tagPresence_getLsbD]
  · rw [tags, SlotRecord.tagByte, hf]
    rfl
  · rw [chosen, selectedSlot_eq hk only, orAbsent_some (by decide)]
  · rw [chosen, selectedSlot_none h]
    rfl
  · rw [shared, armedSharedCount, ← List.countP_eq_length_filter]
    generalize allWindows = windows
    refine congrArg (BitVec.ofNat 8) (List.countP_congr fun ow _ => ?_)
    cases s.freeze ow.1 ow.2 with
    | none | armed => rfl
    | frozen j k shared => cases shared <;> simp

/-- Page 0. -/
theorem statusSummary_reports (s : State) : (statusSummary s).length = 13 ∧ byteAt (statusSummary s) 0 = s.trx.link.number
    ∧ byteAt (statusSummary s) 1 = addressByte s.address ∧ byteAt (statusSummary s) 2 = genlockNumber s.rgu.genlock
    ∧ (∀ o : Fin 4, (byteAt (statusSummary s) 3).getLsbD o.val = decide ((s.output o).mode = .showing)
        ∧ (byteAt (statusSummary s) 4).getLsbD o.val = (s.output o).armed)
    ∧ halfAt (statusSummary s) 5 = s.conditions.setWidth 16 ∧ byteAt (statusSummary s) 7 = resetNumber s.lastReset
    ∧ wordAt (statusSummary s) 8 = BitVec.ofNat 32 s.rgu.counter ∧ byteAt (statusSummary s) 12 = surveyNumber s.survey.state := by
  have modes : byteAt (statusSummary s) 3 = outputBits s (fun out => decide (out.mode = .showing)) := rfl
  have armed : byteAt (statusSummary s) 4 = outputBits s Output.armed := rfl
  have conditions : halfAt (statusSummary s) 5 = conditionsHalf s.conditions := halfAt_of_drop rfl
  refine ⟨rfl, rfl, rfl, ?_, fun o => ⟨?_, ?_⟩, ?_, ?_, wordAt_of_drop rfl, ?_⟩
  · rw [← genlockNumber_eq]
    rfl
  · rw [modes, outputBits_getLsbD]
  · rw [armed, outputBits_getLsbD]
  · rw [conditions, conditionsHalf_eq]
  · rw [← resetNumber_eq]
    rfl
  · rw [← surveyNumber_eq]
    rfl

/-- Page 9. -/
theorem statusGenlock_reports (s : State) : (statusGenlock s).length = 12
    ∧ (s.rgu.reference = none → byteAt (statusGenlock s) 0 = 255#8)
    ∧ (∀ src, s.rgu.reference = some src → (byteAt (statusGenlock s) 0).toNat = src.val)
    ∧ byteAt (statusGenlock s) 1 = (if s.rgu.lastE.isSome then 1#8 else 0#8)
    ∧ (∀ e, s.rgu.lastE = some e → wordAt (statusGenlock s) 2 = BitVec.ofInt 32 e)
    ∧ halfAt (statusGenlock s) 6 = BitVec.ofInt 16 s.rgu.trim ∧ halfAt (statusGenlock s) 8 = BitVec.ofInt 16 s.rgu.corr
    ∧ byteAt (statusGenlock s) 10 = BitVec.ofNat 8 s.rgu.goodCount ∧ byteAt (statusGenlock s) 11 = BitVec.ofNat 8 s.rgu.badCount := by
  have reference : byteAt (statusGenlock s) 0 = orAbsent s.rgu.reference := rfl
  have last : wordAt (statusGenlock s) 2 = BitVec.ofInt 32 (s.rgu.lastE.getD 0) := wordAt_of_drop rfl
  refine ⟨rfl, fun h => ?_, fun src h => ?_, rfl, fun e h => ?_, halfAt_of_drop rfl, halfAt_of_drop rfl, rfl, rfl⟩
  · rw [reference, h]
    rfl
  · rw [reference, h, orAbsent_some (by decide)]
  · rw [last, h]
    rfl

/-- Page 10. -/
theorem statusLink_reports (s : State) : (statusLink s).length = 4 ∧ halfAt (statusLink s) 0 = BitVec.ofNat 16 s.trx.headerErrors
    ∧ halfAt (statusLink s) 2 = BitVec.ofNat 16 (min 65535 ((s.store 0).stray + (s.store 1).stray + (s.store 2).stray
        + (s.store 3).stray + (s.store 4).stray + (s.store 5).stray + (s.store 6).stray + (s.store 7).stray)) := by
  have all : ((List.finRange 8).map (fun i => (s.store i).stray)).sum = (s.store 0).stray + ((s.store 1).stray + ((s.store 2).stray
      + ((s.store 3).stray + ((s.store 4).stray + ((s.store 5).stray + ((s.store 6).stray + ((s.store 7).stray + 0))))))) := rfl
  have sum : halfAt (statusLink s) 2 = BitVec.ofNat 16 (straySum s) := halfAt_of_drop (rest := []) rfl
  refine ⟨rfl, halfAt_of_drop rfl, ?_⟩
  rw [sum, straySum, all, Config.counterMax, Nat.min_comm]
  simp only [Nat.add_assoc, Nat.add_zero]

/-! ### The page that is named -/

theorem statusPage_store {page : Nat} (h : page = i.val + 1) (s : State) : statusPage s page = some (statusStore s i) := by
  subst h
  have small : i.val + 1 - 1 < 8 := i.isLt
  rw [statusPage, if_neg (Nat.succ_ne_zero _), dif_pos small]
  rfl

theorem statusPage_none {page : Nat} (h : 10 < page) (s : State) : statusPage s page = none := by
  unfold statusPage
  rw [if_neg (by omega), dif_neg (by omega), if_neg (by omega), if_neg (by omega)]

theorem statusPage_isSome {page : Nat} (h : page ≤ 10) (s : State) : (statusPage s page).isSome = true := by
  unfold statusPage
  split_ifs
  case neg => omega
  all_goals rfl

/-- Settles O7: the page that is named, and its fields by their places. -/
theorem statusReports : Obligations.StatusReports := by
  intro q page s hears
  refine ⟨fun h => onRequest_refused hears (by rw [statusAnswer, statusPage_none h]), fun h => ?_⟩
  obtain ⟨r, hr⟩ := Option.isSome_iff_exists.1 (statusPage_isSome h s.goodCell)
  have named {page' : Nat} {r' : List Byte} (hp : page.toNat = page') (h' : statusPage s.goodCell page' = some r') : r = r' := by
    rw [hp, h'] at hr
    exact (Option.some.inj hr).symm
  refine ⟨r, onRequest_hears hears (by rw [statusAnswer, hr]), fun h0 => ?_, fun i hi => ?_, fun h9 => ?_, fun h10 => ?_⟩
  · obtain ⟨link, address, -⟩ := hears
    obtain ⟨length, h1, h2, rest⟩ := statusSummary_reports s.goodCell
    rw [named h0 rfl]
    refine ⟨length, h1.trans ?_, h2.trans ?_, rest⟩
    · exact congrArg LinkState.number link
    · exact congrArg addressByte address
  · rw [named hi (statusPage_store rfl s.goodCell)]
    exact statusStore_reports s.goodCell i
  · rw [named h9 rfl]
    exact statusGenlock_reports s.goodCell
  · rw [named h10 rfl]
    exact statusLink_reports s.goodCell

end Sys2Proof.Proofs
end

section
/-! PROOFS. THAW (spec 5): its checks, and what it releases (R84, R94). -/

namespace Sys2Proof.Proofs

open Sys2Proof.Machine Sys2Proof.Claims Sys2Proof.Safety

variable {s : State} {ob wb : Byte} {o : Fin 4} {w : Fin 8}

theorem thaw_range (h : 4 ≤ ob.toNat ∨ 8 ≤ wb.toNat) : thawAnswer ob wb s = refuse s .range := by
  unfold thawAnswer
  rcases h with h | h <;> simp [readIndex_none h]

/-- A THAW in range is carried out. -/
theorem thaw_of (ho : Names ob o) (hw : Names wb w) : thawAnswer ob wb s = thawWindow o w s := by
  simp only [thawAnswer, readIndex_of ho, readIndex_of hw]

/-- A THAW of a FROZEN window unpins the slot, and tells how often it is pinned still. -/
theorem thawWindow_frozen {i : Fin 8} {k : Fin 3} {shared : Bool} (h : s.freeze o w = .frozen i k shared) :
    thawWindow o w s = ⟨((unpinSlot i k s).setFreeze o w .none).setTransition o w .idle, .done,
      [1#8, BitVec.ofNat 8 i.val, BitVec.ofNat 8 k.val, BitVec.ofNat 8 (((s.store i).slot k).pins - 1), 0#8], none⟩ := by
  have thawn : thawed o w s = ((unpinSlot i k s).setFreeze o w .none).setTransition o w .idle := by
    rw [thawed, releaseFreeze, h]
  have pins : (((thawed o w s).store i).slot k).pins = ((s.store i).slot k).pins - 1 := by
    rw [thawn, State.setTransition_store, State.setFreeze_store, unpinSlot_slot]
    simp
  simp only [thawWindow, h, pins]
  rw [thawn]
  rfl

theorem thawWindow_armed {tag : Byte} {i : Fin 8} (h : s.freeze o w = .armed tag i) :
    thawWindow o w s = ⟨(s.setFreeze o w .none).setTransition o w .idle, .done, [2#8, 0#8, 0#8, 0#8, tag], none⟩ := by
  simp only [thawWindow, thawed, releaseFreeze, h]
  rfl

theorem thawWindow_none (h : s.freeze o w = .none) :
    thawWindow o w s = ⟨s.setTransition o w .idle, .done, [0#8, 0#8, 0#8, 0#8, 0#8], none⟩ := by
  simp only [thawWindow, thawed, releaseFreeze, h]
  rfl

/-- Settles O25, by what the window's freeze record is. -/
theorem thawReleasesTheWindow : Obligations.ThawReleasesTheWindow := by
  intro q ob wb s
  refine ⟨fun h => onRequest_heard h rfl, fun h hr => onRequest_refused h (thaw_range hr), fun h o w ho hw => ⟨?_, ?_, ?_⟩⟩
  · intro i k shared hf
    exact onRequest_hears h ((thaw_of ho hw).trans (thawWindow_frozen (s := s.goodCell) hf))
  · intro tag i hf
    exact onRequest_hears h ((thaw_of ho hw).trans (thawWindow_armed (s := s.goodCell) hf))
  · intro hf
    exact onRequest_hears h ((thaw_of ho hw).trans (thawWindow_none (s := s.goodCell) hf))

end Sys2Proof.Proofs
end

section
/-! PROOFS. What a rotation list does when ROU takes an output frame end for it (R74, R79, R82, R106 to R109): the list it becomes, the
start it asks for, and the windows that take the start. -/

namespace Sys2Proof.Proofs

open Sys2Proof.Machine Sys2Proof.Claims Sys2Proof.Safety

variable {s t u : State} {o : Fin 4} {w : Fin 8} {r : Fin 4}

/-! ### Folds, by the steps taken so far -/

/-- An invariant that speaks of the steps taken so far holds of all of them at the end. -/
theorem foldl_induct {α : Type} {f : State → α → State} {Inv : List α → State → Prop}
    (step : ∀ done x s, Inv done s → Inv (done ++ [x]) (f s x)) (xs : List α) (hs : Inv [] s) : Inv xs (xs.foldl f s) := by
  have from_done : ∀ (xs done : List α) (s : State), Inv done s → Inv (done ++ xs) (xs.foldl f s) := by
    intro xs
    induction xs with
    | nil => exact fun done s h => by rwa [List.append_nil]
    | cons x xs ih =>
      intro done s h
      have rest := ih (done ++ [x]) (f s x) (step done x s h)
      rwa [List.append_assoc, List.singleton_append] at rest
  exact from_done xs [] s hs

/-- The same, where no step is taken twice. -/
theorem foldl_induct_once {α : Type} {f : State → α → State} {Inv : List α → State → Prop}
    (step : ∀ done x s, x ∉ done → Inv done s → Inv (done ++ [x]) (f s x)) {xs : List α} (hn : xs.Nodup) (hs : Inv [] s) :
    Inv xs (xs.foldl f s) := by
  refine foldl_induct (Inv := fun done s => done.Nodup → Inv done s) (fun done x s h hnd => ?_) xs (fun _ => hs) hn
  obtain ⟨first, -, apart⟩ := List.nodup_append.1 hnd
  exact step done x s (fun hx => apart x hx x (List.mem_singleton_self x) rfl) (h first)

/-! ### The windows that take a start -/

/-- Window `w` of output `o` is bound to list `r`, and takes a start of the list: no bank swap of this output frame end has just bound
it (R79, R82). -/
abbrev Asked (s : State) (o : Fin 4) (w : Fin 8) (r : Fin 4) : Prop :=
  activeContent s o w = some (.list r) ∧ (s.formerOf o w = none ∨ s.formerOf o w = some (some (.list r)))

theorem startDeclined_eq_false :
    startDeclined s o w r = false ↔ s.formerOf o w = none ∨ s.formerOf o w = some (some (.list r)) := by
  unfold startDeclined
  cases s.formerOf o w <;> simp

/-- The content that a start on window `w` leaves, once a running transition has been ended (R74, R79). -/
def leftBy (s : State) (o : Fin 4) (w : Fin 8) : Shown :=
  match s.activeWindow o w with
  | some x => idleContent s x
  | none => .colour s.rgu.raster.background

/-- The record that a start of list `r` leaves on window `w` (R76, R79). -/
def startOn (s : State) (r : Fin 4) (b : Shown) (style : Style) (d : Nat) (o : Fin 4) (w : Fin 8) : TransitionRecord :=
  started (leftBy s o w) b style (durationTaken style d) (.list r)

/-- A start that is taken: the window's record is written, and marked if it runs (R78, R79). -/
theorem askStart_of_asked {b : Shown} {style : Style} {d : Nat} (h : Asked s o w r) : askStart r b style d s (o, w)
    = if startOn s r b style d o w = .idle then s.setTransition o w (startOn s r b style d o w)
      else (s.setTransition o w (startOn s r b style d o w)).mark (.transition o w) := by
  obtain ⟨bound, former⟩ := h
  obtain ⟨x, hx, -⟩ := Option.map_eq_some_iff.1 bound
  simp only [askStart, startDeclined_eq_false.2 former, hx, startOn, leftBy, ← takenDuration_eq]
  rfl

/-- A start that is declined. -/
theorem askStart_of_declined {b : Shown} {style : Style} {d : Nat} (bound : activeContent s o w = some (.list r))
    (h : ¬ Asked s o w r) : askStart r b style d s (o, w) = s := by
  obtain ⟨x, hx, -⟩ := Option.map_eq_some_iff.1 bound
  have declined : startDeclined s o w r = true := by
    rw [← Bool.not_eq_false, startDeclined_eq_false]
    exact fun former => h ⟨bound, former⟩
  simp only [askStart, declined, hx, if_true]

/-- The starts `x` on the windows for which `p` holds have been taken, and nothing else has changed but their marks. -/
structure StartsTaken (p : Fin 4 → Fin 8 → Prop) (x : Fin 4 → Fin 8 → TransitionRecord) (s t : State) : Prop where
  rest : ∃ a e, t = { s with transitions := a, early := e }
  taken : ∀ o w, p o w → t.transition o w = x o w
  kept : ∀ o w, ¬ p o w → t.transition o w = s.transition o w
  early : ∀ m, m ∈ t.early ↔ m ∈ s.early ∨ ∃ o w, p o w ∧ x o w ≠ .idle ∧ m = .transition o w

theorem StartsTaken.none {p : Fin 4 → Fin 8 → Prop} {x : Fin 4 → Fin 8 → TransitionRecord} (h : ∀ o w, ¬ p o w) :
    StartsTaken p x s s :=
  ⟨⟨_, _, rfl⟩, fun o w hp => absurd hp (h o w), fun _ _ _ => rfl, fun m => by simp [h]⟩

theorem StartsTaken.congr {p q : Fin 4 → Fin 8 → Prop} {x : Fin 4 → Fin 8 → TransitionRecord} (h : StartsTaken p x s t)
    (hpq : ∀ o w, p o w ↔ q o w) : StartsTaken q x s t := by
  obtain rfl : p = q := by funext o w; exact propext (hpq o w)
  exact h

/-- One more start is taken, the window's record written and marked if it runs. -/
theorem StartsTaken.start {p : Fin 4 → Fin 8 → Prop} {x : Fin 4 → Fin 8 → TransitionRecord} (h : StartsTaken p x s t) (o : Fin 4)
    (w : Fin 8) : StartsTaken (fun o' w' => p o' w' ∨ (o = o' ∧ w = w')) x s
      (if x o w = .idle then t.setTransition o w (x o w) else (t.setTransition o w (x o w)).mark (.transition o w)) := by
  obtain ⟨⟨a, e, rfl⟩, taken, kept, early⟩ := h
  have written : ∀ o' w', (if x o w = .idle then State.setTransition { s with transitions := a, early := e } o w (x o w)
      else (State.setTransition { s with transitions := a, early := e } o w (x o w)).mark (.transition o w)).transition o' w'
      = if o = o' ∧ w = w' then x o w else gget a o' w' := fun o' w' => by
    split <;> exact State.setTransition_transition _ o w _ o' w'
  refine ⟨?_, fun o' w' hp => ?_, fun o' w' hp => ?_, fun m => ?_⟩
  · split <;> exact ⟨_, _, rfl⟩
  · rw [written]
    split
    · rename_i hw; obtain ⟨rfl, rfl⟩ := hw; rfl
    · exact taken o' w' (hp.resolve_right ‹_›)
  · obtain ⟨hp, hw⟩ := not_or.1 hp
    rw [written, if_neg hw]
    exact kept o' w' hp
  · have before := early m
    simp only at before
    split
    · rename_i idle
      refine before.trans (or_congr_right ⟨fun ⟨o', w', hp, hx⟩ => ⟨o', w', .inl hp, hx⟩, ?_⟩)
      rintro ⟨o', w', hp | ⟨rfl, rfl⟩, hx, rfl⟩
      · exact ⟨o', w', hp, hx, rfl⟩
      · exact absurd idle hx
    · rename_i running
      show m ∈ _ :: e ↔ _
      rw [List.mem_cons, before]
      constructor
      · rintro (rfl | hm | ⟨o', w', hp, hx⟩)
        · exact .inr ⟨o, w, .inr ⟨rfl, rfl⟩, running, rfl⟩
        · exact .inl hm
        · exact .inr ⟨o', w', .inl hp, hx⟩
      · rintro (hm | ⟨o', w', hp | ⟨rfl, rfl⟩, hx, rfl⟩)
        · exact .inr (.inl hm)
        · exact .inr (.inr ⟨o', w', hp, hx, rfl⟩)
        · exact .inl rfl

/-- A start that a list asks for is taken by its windows (R109). -/
theorem askStarts_taken (r : Fin 4) (b : Shown) (style : Style) (d : Nat) (s : State) :
    StartsTaken (fun o w => Asked s o w r) (startOn s r b style d) s (askStarts r b style d s) := by
  have fold : (∀ ow ∈ boundWindows s r, ow ∈ boundWindows s r) →
      StartsTaken (fun o w => (o, w) ∈ boundWindows s r ∧ Asked s o w r) (startOn s r b style d) s (askStarts r b style d s) := by
    refine foldl_induct (Inv := fun done t => (∀ ow ∈ done, ow ∈ boundWindows s r) →
      StartsTaken (fun o w => (o, w) ∈ done ∧ Asked s o w r) (startOn s r b style d) s t) ?_ _ fun _ => .none (by simp)
    rintro done ⟨o, w⟩ t h bound
    have before := h fun ow how => bound ow (List.mem_append_left _ how)
    have start := before.start o w
    obtain ⟨a, e, rfl⟩ := before.rest
    by_cases asked : Asked s o w r
    · rw [askStart_of_asked (s := { s with transitions := a, early := e }) asked]
      refine start.congr fun o' w' => ?_
      simp only [List.mem_append, List.mem_singleton, Prod.mk.injEq, or_and_right]
      refine or_congr_right ⟨?_, fun h => ⟨h.1.1.symm, h.1.2.symm⟩⟩
      rintro ⟨rfl, rfl⟩
      exact ⟨⟨rfl, rfl⟩, asked⟩
    · have boundTo : activeContent { s with transitions := a, early := e } o w = some (.list r) :=
        mem_boundWindows.1 (bound (o, w) (List.mem_append_right _ (List.mem_singleton_self _)))
      rw [askStart_of_declined (s := { s with transitions := a, early := e }) boundTo asked]
      refine before.congr fun o' w' => ?_
      simp only [List.mem_append, List.mem_singleton, Prod.mk.injEq]
      refine and_congr_left fun h => ⟨.inl, fun hm => hm.resolve_right ?_⟩
      rintro ⟨rfl, rfl⟩
      exact asked h
  exact (fold fun _ h => h).congr fun o w => and_iff_right_of_imp fun h => mem_boundWindows.2 h.1

/-! ### The list -/

/-- The start that list `r` asks for when ROU takes an output frame end for it: its to-content, style and duration (R106 to R109). -/
def listStart (s : State) (r : Fin 4) : Option (Shown × Style × Nat) :=
  match (s.list r).staged with
  | some st => st.entries.head?.map fun src => (.source src, .cut, 1)
  | none =>
    if (s.list r).entries ≠ [] ∧ (s.list r).counter ≤ 1 then
      (nextLive s (s.list r)).map fun x => (.source x.2, (s.list r).style, (s.list r).duration)
    else none

/-- What list `r` becomes when ROU takes an output frame end for it (R106 to R108). -/
def listNext (s : State) (r : Fin 4) : RotationList :=
  match (s.list r).staged with
  | some st => ⟨st.entries, st.dwell, st.style, st.duration, 0, st.dwell, none⟩
  | none =>
    if (s.list r).entries = [] then s.list r
    else if (s.list r).counter ≤ 1 then
      { s.list r with position := ((nextLive s (s.list r)).map Prod.fst).getD (s.list r).position, counter := (s.list r).dwell }
    else { s.list r with counter := (s.list r).counter - 1 }

/-- The start that list `r` asks for, asked of its windows. -/
def takeListStart (s : State) (r : Fin 4) : State :=
  match listStart s r with
  | some (b, style, d) => askStarts r b style d s
  | none => s

/-- ROU asks for a list's start, and then moves the list (R106 to R109). -/
theorem listFrameEnd_eq (r : Fin 4) (s : State) : listFrameEnd r s = (takeListStart s r).setList r (listNext s r) := by
  have unmoved : s.setList r (s.list r) = s := by
    rw [State.setList, State.list, tset_tget]
  simp only [listFrameEnd, takeListStart, listStart, listNext]
  cases hst : (s.list r).staged with
  | some st =>
    simp only [applyStaged]
    cases st.entries <;> rfl
  | none =>
    by_cases empty : (s.list r).entries = []
    · simp [empty, unmoved]
    · by_cases out : (s.list r).counter ≤ 1
      · simp only [empty, out, advanceList, hst, not_false_eq_true, and_self, if_true, if_false, ne_eq]
        cases nextLive s (s.list r) <;> rfl
      · simp [empty, out]

/-- The record that list `r` starts on window `w`, when ROU takes an output frame end for it. -/
def windowStart (s : State) (o : Fin 4) (w : Fin 8) (r : Fin 4) : Option TransitionRecord :=
  if Asked s o w r then (listStart s r).map fun x => startOn s r x.1 x.2.1 x.2.2 o w else none

/-- List `r` has moved, the windows that it starts have been started and marked, and nothing else has changed. -/
structure ListTaken (r : Fin 4) (s t : State) : Prop where
  rest : ∃ a b e, t = { s with lists := a, transitions := b, early := e }
  list : t.list r = listNext s r
  others : ∀ r', r' ≠ r → t.list r' = s.list r'
  transition : ∀ o w, t.transition o w = (windowStart s o w r).getD (s.transition o w)
  early : ∀ m, m ∈ t.early ↔ m ∈ s.early ∨ ∃ o w x, windowStart s o w r = some x ∧ x ≠ .idle ∧ m = .transition o w

theorem listFrameEnd_taken (r : Fin 4) (s : State) : ListTaken r s (listFrameEnd r s) := by
  rw [listFrameEnd_eq]
  have starts : ∃ p x, StartsTaken p x s (takeListStart s r)
      ∧ ∀ o w, windowStart s o w r = some (x o w) ∧ p o w ∨ windowStart s o w r = none ∧ ¬ p o w := by
    unfold takeListStart
    cases h : listStart s r with
    | none =>
      refine ⟨fun _ _ => False, fun _ _ => .idle, .none fun _ _ => id, fun o w => .inr ⟨?_, id⟩⟩
      rw [windowStart, h, Option.map_none, ite_self]
    | some x =>
      refine ⟨_, _, askStarts_taken r x.1 x.2.1 x.2.2 s, fun o w => ?_⟩
      by_cases asked : Asked s o w r
      · exact .inl ⟨by rw [windowStart, if_pos asked, h]; rfl, asked⟩
      · exact .inr ⟨by rw [windowStart, if_neg asked], asked⟩
  obtain ⟨p, x, ⟨⟨a, e, rest⟩, taken, kept, early⟩, hx⟩ := starts
  refine ⟨?_, ?_, fun r' hr => ?_, fun o w => ?_, fun m => ?_⟩
  · rw [rest]
    exact ⟨_, _, _, rfl⟩
  · rw [State.setList_list, if_pos rfl]
  · rw [State.setList_list, if_neg (Ne.symm hr), rest]
    rfl
  · rw [State.setList_transition]
    rcases hx o w with ⟨h, hp⟩ | ⟨h, hp⟩
    · rw [taken o w hp, h, Option.getD_some]
    · rw [kept o w hp, h, Option.getD_none]
  · rw [State.setList_early, early m]
    refine or_congr_right ⟨fun ⟨o, w, hp, hne, hm⟩ => ?_, fun ⟨o, w, y, hy, hne, hm⟩ => ?_⟩
    · rcases hx o w with ⟨h, -⟩ | ⟨-, hn⟩
      · exact ⟨o, w, _, h, hne, hm⟩
      · exact absurd hp hn
    · rcases hx o w with ⟨h, hp⟩ | ⟨h, -⟩
      · obtain rfl := Option.some.inj (h.symm.trans hy)
        exact ⟨o, w, hp, hne, hm⟩
      · rw [h] at hy
        cases hy

/-! ### The next LIVE entry -/

/-- An advance finds nothing where no other position's source is LIVE (R108). -/
theorem nextLive_none {l : RotationList} (h : ∀ m src, 1 ≤ m → m < l.entries.length →
    l.entries[(l.position + m) % l.entries.length]? = some src → s.sourceLive src = false) : nextLive s l = none := by
  simp only [nextLive, otherPositions, List.findSome?_map, List.findSome?_eq_none_iff, List.mem_range, Function.comp_apply]
  intro k hk
  split
  · rename_i src hsrc
    rw [if_neg]
    rw [h (k + 1) src (by omega) (by omega) (by rw [← hsrc]; congr 2; omega)]
    exact Bool.false_ne_true
  · rfl

/-- An advance finds the first other position whose source is LIVE (R108). -/
theorem nextLive_some {l : RotationList} {m : Nat} {src : Fin 16} (hm : 1 ≤ m) (hn : m < l.entries.length)
    (hsrc : l.entries[(l.position + m) % l.entries.length]? = some src) (live : s.sourceLive src = true)
    (first : ∀ m' src', 1 ≤ m' → m' < m →
      l.entries[(l.position + m') % l.entries.length]? = some src' → s.sourceLive src' = false) :
    nextLive s l = some ((l.position + m) % l.entries.length, src) := by
  have looked : List.range (l.entries.length - 1)
      = List.range (m - 1) ++ (m - 1) :: (List.range (l.entries.length - 1 - m)).map (m + ·) := by
    have count : l.entries.length - 1 = m + (l.entries.length - 1 - m) := by omega
    have last : m = m - 1 + 1 := by omega
    conv_lhs => rw [count, List.range_add, last, List.range_succ]
    simp [← last]
  have place : l.position + 1 + (m - 1) = l.position + m := by omega
  simp only [nextLive, otherPositions, looked, List.findSome?_map, List.findSome?_append, List.findSome?_cons,
    Function.comp_apply, place, hsrc, live, if_true]
  rw [Option.or_eq_right_of_none]
  refine List.findSome?_eq_none_iff.2 fun k hk => ?_
  rw [List.mem_range] at hk
  simp only [Function.comp_apply]
  split
  · rename_i src' hsrc'
    rw [if_neg]
    rw [first (k + 1) src' (by omega) (by omega) (by rw [← hsrc']; congr 2; omega)]
    exact Bool.false_ne_true
  · rfl

/-! ### The content that a start leaves -/

/-- A window of a list that stands at an entry leaves that entry (R74). -/
theorem leftBy_entry {cur : Fin 16} (bound : activeContent s o w = some (.list r))
    (hcur : (s.list r).entries[(s.list r).position]? = some cur) : leftBy s o w = .source cur := by
  obtain ⟨x, hx, hc⟩ := Option.map_eq_some_iff.1 bound
  simp only [leftBy, hx, idleContent, hc, RotationList.current, hcur]

/-- A window of an EMPTY list leaves its fallback colour, or the background (R74). -/
theorem leftBy_empty {x : WindowRecord} (hx : s.activeWindow o w = some x) (hc : x.content = .list r)
    (empty : (s.list r).entries = []) : leftBy s o w = .colour (x.fallback.getD s.rgu.raster.background) := by
  simp only [leftBy, hx, idleContent, hc, RotationList.current, empty, List.getElem?_nil]

theorem started_eq_idle {a b : Shown} {style : Style} {d : Nat} {origin : Origin} :
    started a b style d origin = .idle ↔ a = b := by
  unfold started
  split <;> simp_all

/-! ### LIST_ADVANCE -/

/-- Settles O27: the list's part, taken as a step of its own, moves the list if it can, and starts its windows. -/
theorem listAdvanceMovesToTheNextLiveEntry : Obligations.ListAdvanceMovesToTheNextLiveEntry := by
  intro r s running unmarked unstaged entries out
  have due : listDue r s = true := by simp [listDue, running, State.marked, unmarked, unstaged, entries, out]
  have advances : exec (.listAdvance r) s = .next ((advanceList r s).mark (.list r)) := congrArg Host.Outcome.next (if_pos due)
  rw [advances]
  refine ⟨fun dead => ?_, fun m src cur hm hn hsrc live first hcur => ⟨_, rfl, ?_⟩⟩
  · simp only [advanceList, nextLive_none dead]
  · have next := nextLive_some hm hn hsrc live first
    have own : listFrameEnd r s = advanceList r s := by simp only [listFrameEnd, unstaged, if_neg entries, if_pos out]
    have taken := listFrameEnd_taken r s
    rw [own] at taken
    generalize advanceList r s = t at taken ⊢
    obtain ⟨⟨a, b, e, rfl⟩, list, others, transition, early⟩ := taken
    have start : ∀ o w, windowStart s o w r = if Asked s o w r then
        some (started (.source cur) (.source src) (s.list r).style (durationTaken (s.list r).style (s.list r).duration) (.list r))
        else none := fun o w => by
      unfold windowStart
      split
      · rename_i asked
        simp only [listStart, unstaged, entries, out, next, ne_eq, not_false_eq_true, and_self, if_true, Option.map_some,
          startOn, leftBy_entry asked.1 hcur]
      · rfl
    refine ⟨?_, fun x => ?_, ?_, others, fun o w => ?_⟩
    · rfl
    · show x ∈ _ :: e ↔ _
      rw [List.mem_cons, early]
      have marks : (∃ o w y, windowStart s o w r = some y ∧ y ≠ .idle ∧ x = .transition o w) ↔ ∃ o w, x = .transition o w ∧ cur ≠ src
          ∧ (s.activeWindow o w).map WindowRecord.content = some (.list r)
          ∧ (s.formerOf o w = none ∨ s.formerOf o w = some (some (.list r))) := by
        refine exists_congr fun o => exists_congr fun w => ?_
        rw [start]
        by_cases asked : Asked s o w r
        · simp only [if_pos asked, Option.some.injEq, exists_eq_left', ne_eq, started_eq_idle, Shown.source.injEq]
          exact ⟨fun h => ⟨h.2, h.1, asked⟩, fun h => ⟨h.2.1, h.1⟩⟩
        · simp only [if_neg asked, reduceCtorEq, false_and, exists_false, false_iff]
          exact fun h => asked h.2.2
      rw [marks]
      exact or_left_comm
    · rw [State.mark_list, list, listNext]
      simp only [unstaged, if_neg entries, if_pos out, next, Option.map_some, Option.getD_some]
    · rw [State.mark_transition, transition, start]
      exact apply_ite (Option.getD · _) _ _ _

end Sys2Proof.Proofs
end

section
/-! PROOFS. The output frame end, window by window: the former contents and the marks, and what the lists' part starts (R73, R78, R79,
R106 to R109). -/

namespace Sys2Proof.Proofs

open Sys2Proof.Machine Sys2Proof.Claims Sys2Proof.Safety

variable {s t u : State} {o : Fin 4} {w : Fin 8} {r : Fin 4}

/-! ### The parts, by those taken so far -/

/-- An invariant that speaks of the parts taken so far, each of which is taken once, holds of all of them at the end. -/
theorem afterParts_induct {Inv : List FrameEndPart → State → Prop}
    (step : ∀ done z s, z ∉ done → Inv done s → Inv (done ++ [z]) (framePart z s)) (order : List FrameEndPart) (hs : Inv [] s) :
    Inv (completeOrder order) (afterParts order s) := foldl_induct_once step (completeOrder_nodup order) hs

/-- What the other parts keep before part `z`, which makes of it what they keep after it. -/
theorem afterParts_through {P Q : State → Prop} (z : FrameEndPart) (before : ∀ x s, x ≠ z → P s → P (framePart x s))
    (at_part : ∀ s, P s → Q (framePart z s)) (after : ∀ x s, x ≠ z → Q s → Q (framePart x s)) (order : List FrameEndPart)
    (hs : P s) : Q (afterParts order s) := by
  have parts := afterParts_induct (Inv := fun done t => (z ∉ done → P t) ∧ (z ∈ done → Q t)) (fun done x t hx ⟨hp, hq⟩ => by
    simp only [List.mem_append, List.mem_singleton, not_or]
    by_cases hz : x = z
    · subst hz
      exact ⟨fun h => absurd rfl h.2, fun _ => at_part t (hp hx)⟩
    · exact ⟨fun h => before x t hz (hp h.1), fun h => after x t hz (hq (h.resolve_right (Ne.symm hz)))⟩) order
    ⟨fun _ => hs, fun h => by cases h⟩
  exact parts.2 (mem_completeOrder order z)

theorem foldl_same {α β : Type} {g : State → β} {f : State → α → State} (h : ∀ s x, g (f s x) = g s) (xs : List α) (s : State) :
    g (xs.foldl f s) = g s :=
  foldl_keeps (P := fun t => g t = g s) (fun t x ht => (h t x).trans ht) xs rfl

/-! ### The former contents and the marks -/

/-- TXU's former contents, and the parts of the output frame end that are marked as taken. -/
def noted (s : State) : Vector (Vector (Option (Option Content)) 8) 4 × List FrameEndMark := (s.former, s.early)

theorem releaseFreeze_noted (o : Fin 4) (w : Fin 8) (s : State) : noted (releaseFreeze o w s) = noted s := by
  unfold releaseFreeze
  split <;> rfl

theorem selectStore_noted (i : Fin 8) (s : State) : noted (selectStore i s) = noted s := by
  unfold selectStore
  split <;> rfl

theorem leaveLive_noted (src : Fin 16) (s : State) : noted (leaveLive src s) = noted s := by
  unfold leaveLive
  split
  · simp [noted, referenceLoss]
  · rfl

theorem countSilence_noted (i : Fin 8) (s : State) : noted (countSilence i s) = noted s := by
  simp only [countSilence]
  split
  · rfl
  · have counted : ∀ n a b b', noted (((s.setStore i { s.store i with silence := n, state := a }).raiseIf b .sourceStale).raiseIf b'
        .sourceLost) = noted s := fun n a b b' => by simp [noted]
    split
    · rw [leaveLive_noted, counted]
    · exact counted _ _ _ _

theorem takeArmed_noted (o : Fin 4) (w : Fin 8) (s : State) : noted (takeArmed o w s) = noted s := by
  unfold takeArmed
  split
  · rename_i i _
    have selected := selectStore_noted i s
    simp only
    split
    · exact selected
    · split
      · split <;> exact selected
      · exact selected
  · rfl

theorem applyRaster_noted (s : State) : noted (applyRaster s) = noted s := by
  unfold applyRaster
  split
  · rfl
  · split
    · rfl
    · simp [noted]

theorem genlockWork_noted (s : State) : noted (genlockWork s) = noted s := by
  unfold genlockWork
  simp only
  split
  · rfl
  · rfl
  · simp [noted]

/-- Only a bank swap writes a former content, and only a start marks a part. -/
theorem framePart_noted {z : FrameEndPart} (hz : z ≠ .swap ∧ z ≠ .lists) (s : State) : noted (framePart z s) = noted s := by
  obtain ⟨h1, h2⟩ := hz
  cases z with
  | swap => exact absurd rfl h1
  | lists => exact absurd rfl h2
  | silence =>
    refine foldl_same (fun s i => ?_) _ s
    split
    · rfl
    · exact countSilence_noted i s
  | selection => exact foldl_same (fun s i => selectStore_noted i s) _ s
  | freezes =>
    rw [framePart, freezePart]
    generalize allWindows = windows
    exact foldl_same (fun s ow => takeArmed_noted ow.1 ow.2 s) windows s
  | transitions | count => rfl
  | survey => rw [framePart, surveyPart]; split <;> rfl
  | raster =>
    rw [framePart, rasterPart]
    split
    · rfl
    · exact applyRaster_noted s
  | genlock =>
    rw [framePart, genlockPart]
    split
    · rfl
    · exact genlockWork_noted s

/-! ### The lists -/

/-- What a list becomes does not read the transitions, the marks or another list. -/
theorem listNext_congr {a : Vector RotationList 4} {b : Vector (Vector TransitionRecord 8) 4} {e : List FrameEndMark}
    (h : tget a r = s.list r) : listNext { s with lists := a, transitions := b, early := e } r = listNext s r := by
  have same : State.list { s with lists := a, transitions := b, early := e } r = s.list r := h
  unfold listNext
  rw [same]
  rfl

/-- Nor does what it starts. -/
theorem windowStart_congr {a : Vector RotationList 4} {b : Vector (Vector TransitionRecord 8) 4} {e : List FrameEndMark}
    (h : tget a r = s.list r) : windowStart { s with lists := a, transitions := b, early := e } o w r = windowStart s o w r := by
  have same : State.list { s with lists := a, transitions := b, early := e } r = s.list r := h
  have start : listStart { s with lists := a, transitions := b, early := e } r = listStart s r := by
    unfold listStart
    rw [same]
    rfl
  unfold windowStart
  split
  · rename_i asked
    have left : leftBy { s with lists := a, transitions := b, early := e } o w = leftBy s o w := by
      obtain ⟨x, hx, hc⟩ := Option.map_eq_some_iff.1 asked.1
      have hx' : s.activeWindow o w = some x := hx
      simp only [leftBy, hx, hx', idleContent, hc, same]
    have asked' : Asked s o w r := asked
    rw [start, if_pos asked']
    simp only [startOn, left]
  · rename_i declined
    have declined' : ¬ Asked s o w r := declined
    rw [if_neg declined']

/-- List `r`, if its part of the output frame end is still to be taken, starts record `x` on window `w` there. -/
def Starts (s : State) (r : Fin 4) (o : Fin 4) (w : Fin 8) (x : TransitionRecord) : Prop :=
  FrameEndMark.list r ∉ s.early ∧ windowStart s o w r = some x

/-- A list starts windows only that are bound to it, and do not decline (R79, R109). -/
theorem Starts.asked {x : TransitionRecord} (h : Starts s r o w x) : Asked s o w r := by
  by_contra hn
  have := h.2
  rw [windowStart, if_neg hn] at this
  cases this

/-- The lists of `done` have been taken: they have moved, the windows that they start have been started and marked, and nothing else has
changed. -/
structure ListsTaken (done : List (Fin 4)) (s t : State) : Prop where
  rest : ∃ a b e, t = { s with lists := a, transitions := b, early := e }
  marked : ∀ r, FrameEndMark.list r ∈ s.early → t.list r = s.list r
  moved : ∀ r ∈ done, FrameEndMark.list r ∉ s.early → t.list r = listNext s r
  waiting : ∀ r, r ∉ done → t.list r = s.list r
  started : ∀ r ∈ done, ∀ o w x, Starts s r o w x → t.transition o w = x
  kept : ∀ o w, (∀ r ∈ done, ∀ x, ¬ Starts s r o w x) → t.transition o w = s.transition o w
  early : ∀ m, m ∈ t.early ↔ m ∈ s.early ∨ ∃ r ∈ done, ∃ o w x, Starts s r o w x ∧ x ≠ .idle ∧ m = .transition o w

theorem ListsTaken.refl (s : State) : ListsTaken [] s s where
  rest := ⟨_, _, _, rfl⟩
  marked _ _ := rfl
  moved _ h := by cases h
  waiting _ _ := rfl
  started _ h := by cases h
  kept _ _ _ := rfl
  early m := by simp

/-- ROU's work for one list, unless it has been taken already. -/
def listStep (s : State) (r : Fin 4) : State := if s.marked (.list r) then s else listFrameEnd r s

theorem listStep_taken {done : List (Fin 4)} (hr : r ∉ done) (h : ListsTaken done s t) :
    ListsTaken (done ++ [r]) s (listStep t r) := by
  obtain ⟨⟨a, b, e, rfl⟩, marked, moved, waiting, started, kept, early⟩ := h
  have mark : (FrameEndMark.list r ∈ e) ↔ FrameEndMark.list r ∈ s.early := (early (.list r)).trans (by simp)
  have same : tget a r = s.list r := waiting r hr
  have mem : ∀ {r' : Fin 4}, r' ∈ done ++ [r] ↔ r' ∈ done ∨ r' = r := by simp
  by_cases hm : FrameEndMark.list r ∈ s.early
  · have idle : listStep { s with lists := a, transitions := b, early := e } r = { s with lists := a, transitions := b, early := e } :=
      if_pos (decide_eq_true (mark.2 hm))
    have none : ∀ o w x, ¬ Starts s r o w x := fun o w x h => h.1 hm
    rw [idle]
    refine ⟨⟨a, b, e, rfl⟩, marked, fun r' h' => ?_, fun r' h' => waiting r' fun h => h' (mem.2 (.inl h)), fun r' h' => ?_,
      fun o w h' => kept o w fun r' h => h' r' (mem.2 (.inl h)), fun m => (early m).trans (or_congr_right ?_)⟩
    · rcases mem.1 h' with h' | rfl
      · exact moved r' h'
      · exact fun h => absurd hm h
    · rcases mem.1 h' with h' | rfl
      · exact started r' h'
      · exact fun o w x h => absurd h (none o w x)
    · refine exists_congr fun r' => and_congr_left fun ⟨o, w, x, hx, _⟩ => ⟨fun h => mem.2 (.inl h), fun h => ?_⟩
      exact (mem.1 h).resolve_right fun e => none o w x (e ▸ hx)
  · have taken : listStep { s with lists := a, transitions := b, early := e } r
        = listFrameEnd r { s with lists := a, transitions := b, early := e } :=
      if_neg (by simpa [State.marked] using fun h => hm (mark.1 h))
    have starts : ∀ o w x, Starts s r o w x ↔ windowStart { s with lists := a, transitions := b, early := e } o w r = some x :=
      fun o w x => by rw [windowStart_congr same]; exact and_iff_right hm
    rw [taken]
    obtain ⟨⟨a', b', e', hrest⟩, list, others, transition, early'⟩ :=
      listFrameEnd_taken r { s with lists := a, transitions := b, early := e }
    rw [listNext_congr same] at list
    refine ⟨⟨a', b', e', hrest⟩, fun r' h' => ?_, fun r' h' hr' => ?_, fun r' h' => ?_, fun r' h' o w x hx => ?_, fun o w h' => ?_,
      fun m => ?_⟩
    · rw [others r' fun e => hm (e ▸ h')]
      exact marked r' h'
    · rcases mem.1 h' with h | rfl
      · rw [others r' fun e => hr (e ▸ h)]
        exact moved r' h hr'
      · exact list
    · obtain ⟨hd, hne⟩ := not_or.1 (mt mem.2 h')
      rw [others r' hne]
      exact waiting r' hd
    · rw [transition]
      rcases mem.1 h' with h | rfl
      · have apart : ∀ y, ¬ Starts s r o w y := fun y hy => by
          have bound := hx.asked.1.symm.trans hy.asked.1
          simp only [Option.some.injEq, Content.list.injEq] at bound
          exact hr (bound ▸ h)
        have none : windowStart { s with lists := a, transitions := b, early := e } o w r = none :=
          Option.eq_none_iff_forall_ne_some.2 fun y hy => apart y ((starts o w y).2 hy)
        rw [none, Option.getD_none]
        exact started r' h o w x hx
      · rw [(starts o w x).1 hx, Option.getD_some]
    · have none : windowStart { s with lists := a, transitions := b, early := e } o w r = none :=
        Option.eq_none_iff_forall_ne_some.2 fun y hy => h' r (mem.2 (.inr rfl)) y ((starts o w y).2 hy)
      rw [transition, none, Option.getD_none]
      exact kept o w fun r' h => h' r' (mem.2 (.inl h))
    · rw [early', early]
      simp only [mem, or_and_right, exists_or, exists_eq_left, starts, or_assoc]

theorem listPart_taken (s : State) : ListsTaken (List.finRange 4) s (listPart s) :=
  foldl_induct_once (f := listStep) (Inv := fun done t => ListsTaken done s t) (fun _ _ _ hr h => listStep_taken hr h)
    (List.nodup_finRange 4) (.refl s)

/-- The lists' part leaves the transition of a window that no list starts. -/
theorem listPart_kept (h : ∀ r x, ¬ Starts s r o w x) : (listPart s).transition o w = s.transition o w
    ∧ (FrameEndMark.transition o w ∈ (listPart s).early ↔ FrameEndMark.transition o w ∈ s.early) := by
  refine ⟨(listPart_taken s).kept o w fun r _ => h r, ((listPart_taken s).early _).trans (or_iff_left ?_)⟩
  rintro ⟨r, -, o', w', x, hx, -, hm⟩
  cases hm
  exact h r x hx

theorem listPart_former (s : State) : (listPart s).former = s.former := by
  obtain ⟨a, b, e, h⟩ := (listPart_taken s).rest
  rw [h]

end Sys2Proof.Proofs
end

section
/-! PROOFS. The output frame end, window by window: the bank swap (R14, R73, R81, R95). -/

namespace Sys2Proof.Proofs

open Sys2Proof.Machine Sys2Proof.Claims Sys2Proof.Safety

variable {s t u : State} {o : Fin 4} {w : Fin 8}

/-! ### One window -/

/-- The record that window `w` has in the pending bank of output `o`. -/
abbrev newRecord (s : State) (o : Fin 4) (w : Fin 8) : Option WindowRecord := findWindow (s.output o).pending w

/-- How often slot `k` of store `i` is pinned. -/
abbrev pinsOf (s : State) (i : Fin 8) (k : Fin 3) : Nat := ((s.store i).slot k).pins

/-- A bank swap releases a window that is FROZEN on slot `k` of store `i` (R95). -/
def released (s : State) (i : Fin 8) (k : Fin 3) (ow : Fin 4 × Fin 8) : Bool :=
  restsOn i k (s.freeze ow.1 ow.2) && !freezeKept s (newRecord s ow.1 ow.2) i

/-- FZU's record of window `w` after a bank swap (R95). -/
def freezeSwapped (s : State) (o : Fin 4) (w : Fin 8) : FreezeRecord :=
  if ∀ i ∈ storeNamed (s.freeze o w), freezeKept s (newRecord s o w) i = true then s.freeze o w else .none

theorem freezeKept_congr (h : ∀ i, (t.store i).binding = (s.store i).binding) (new : Option WindowRecord) (i : Fin 8) :
    freezeKept t new i = freezeKept s new i := by simp only [freezeKept, State.frozenSource, h]

/-- FZU keeps a record for the source that its store is bound to (R95). -/
theorem freezeKept_iff {new : Option WindowRecord} {i : Fin 8} :
    freezeKept s new i = true ↔ ∃ src, (s.store i).binding = some src ∧ new.map WindowRecord.content = some (.source src) := by
  unfold freezeKept State.frozenSource
  cases new <;> cases (s.store i).binding <;> simp

theorem storeNamed_of_restsOn {f : FreezeRecord} {i : Fin 8} {k : Fin 3} (h : restsOn i k f = true) : storeNamed f = some i := by
  cases f with
  | frozen j l shared => rw [storeNamed, (of_decide_eq_true h).1]
  | _ => cases h

theorem releaseFreeze_pins (o : Fin 4) (w : Fin 8) (s : State) (i : Fin 8) (k : Fin 3) :
    pinsOf (releaseFreeze o w s) i k = pinsOf s i k - (restsOn i k (s.freeze o w)).toNat := by
  unfold releaseFreeze
  split
  · rename_i h
    rw [pinsOf, State.setFreeze_store, unpinSlot_slot, h]
    rfl
  · rename_i h
    rw [h]
    rfl
  · rename_i h
    rw [h]
    rfl

/-- TXU and FZU take a window: TXU first notes its former content and decides on its transition, then FZU decides on its freeze. -/
theorem swapWindow_eq (o : Fin 4) (s : State) (w : Fin 8) : swapWindow o s w
    = swapFreeze (newRecord s o w) o w ((s.setFormer o w (some (activeContent s o w))).setTransition o w
        (swapTransition (newRecord s o w) (s.transition o w))) := rfl

theorem swapFreeze_noted (new : Option WindowRecord) (o : Fin 4) (w : Fin 8) (s : State) : noted (swapFreeze new o w s) = noted s := by
  rw [swapFreeze_eq]
  split
  · rfl
  · exact releaseFreeze_noted o w s

theorem swapWindow_transition (o : Fin 4) (s : State) (w : Fin 8) (o' : Fin 4) (w' : Fin 8) : (swapWindow o s w).transition o' w'
    = if o = o' ∧ w = w' then swapTransition (newRecord s o w) (s.transition o w) else s.transition o' w' := by
  rw [swapWindow_eq, swapFreeze_transition, State.setTransition_transition, State.setFormer_transition]

theorem swapWindow_former (o : Fin 4) (s : State) (w : Fin 8) (o' : Fin 4) (w' : Fin 8) : (swapWindow o s w).formerOf o' w'
    = if o = o' ∧ w = w' then some (activeContent s o w) else s.formerOf o' w' := by
  rw [swapWindow_eq, State.formerOf, (Prod.mk.inj (swapFreeze_noted _ _ _ _)).1]
  exact State.setFormer_formerOf s o w _ o' w'

theorem swapWindow_early (o : Fin 4) (s : State) (w : Fin 8) : (swapWindow o s w).early = s.early := by
  rw [swapWindow_eq, (Prod.mk.inj (swapFreeze_noted _ _ _ _)).2]
  rfl

theorem swapFreeze_freezes (o : Fin 4) (w : Fin 8) (s : State) (o' : Fin 4) (w' : Fin 8) :
    (swapFreeze (newRecord s o w) o w s).freeze o' w' = if o = o' ∧ w = w' then freezeSwapped s o w else s.freeze o' w' := by
  rw [swapFreeze_eq, freezeSwapped]
  by_cases here : o = o' ∧ w = w'
  · obtain ⟨rfl, rfl⟩ := here
    simp only [and_self, if_true]
    split
    · rfl
    · rw [releaseFreeze_freeze, if_pos ⟨rfl, rfl⟩]
  · rw [if_neg here]
    split
    · rfl
    · rw [releaseFreeze_freeze, if_neg here]

theorem swapFreeze_pins (o : Fin 4) (w : Fin 8) (s : State) (i : Fin 8) (k : Fin 3) :
    pinsOf (swapFreeze (newRecord s o w) o w s) i k = pinsOf s i k - (released s i k (o, w)).toNat := by
  rw [swapFreeze_eq, released]
  cases rests : restsOn i k (s.freeze o w) with
  | false =>
    split
    · rfl
    · rw [releaseFreeze_pins, rests]
      rfl
  | true =>
    simp only [storeNamed_of_restsOn rests, Option.mem_some_iff, forall_eq', Bool.true_and]
    split
    · rename_i kept
      rw [kept]
      rfl
    · rename_i lost
      rw [releaseFreeze_pins, rests, Bool.eq_false_iff.2 lost]
      rfl

/-- FZU's decision does not read what TXU has written. -/
theorem swapWindow_freeze (o : Fin 4) (s : State) (w : Fin 8) (o' : Fin 4) (w' : Fin 8) :
    (swapWindow o s w).freeze o' w' = if o = o' ∧ w = w' then freezeSwapped s o w else s.freeze o' w' :=
  swapFreeze_freezes o w ((s.setFormer o w (some (activeContent s o w))).setTransition o w _) o' w'

theorem swapWindow_pins (o : Fin 4) (s : State) (w : Fin 8) (i : Fin 8) (k : Fin 3) :
    pinsOf (swapWindow o s w) i k = pinsOf s i k - (released s i k (o, w)).toNat :=
  swapFreeze_pins o w ((s.setFormer o w (some (activeContent s o w))).setTransition o w _) i k

/-! ### One window after the other -/

/-- The windows of `done` have been taken by TXU and FZU at a bank swap. -/
structure WindowsSwapped (done : List (Fin 4 × Fin 8)) (s t : State) : Prop where
  transition : ∀ o w, t.transition o w
    = if (o, w) ∈ done then swapTransition (newRecord s o w) (s.transition o w) else s.transition o w
  former : ∀ o w, t.formerOf o w = if (o, w) ∈ done then some (activeContent s o w) else s.formerOf o w
  freeze : ∀ o w, t.freeze o w = if (o, w) ∈ done then freezeSwapped s o w else s.freeze o w
  pins : ∀ i k, pinsOf t i k = pinsOf s i k - done.countP (released s i k)
  binding : ∀ i, (t.store i).binding = (s.store i).binding
  early : t.early = s.early

theorem WindowsSwapped.refl (s : State) : WindowsSwapped [] s s where
  transition _ _ := rfl
  former _ _ := rfl
  freeze _ _ := rfl
  pins _ _ := rfl
  binding _ := rfl
  early := rfl

/-- A table with one entry more that is as it should be. -/
theorem write_mem_append {α : Type} {done : List (Fin 4 × Fin 8)} (a : α) (f g : Fin 4 → Fin 8 → α) (h : a = f o w) (o' : Fin 4)
    (w' : Fin 8) : (if o = o' ∧ w = w' then a else if (o', w') ∈ done then f o' w' else g o' w')
      = if (o', w') ∈ done ++ [(o, w)] then f o' w' else g o' w' := by
  have mem : (o', w') ∈ done ++ [(o, w)] ↔ (o', w') ∈ done ∨ o = o' ∧ w = w' := by simp [eq_comm]
  by_cases here : o = o' ∧ w = w'
  · rw [if_pos here, if_pos (mem.2 (.inr here)), h, here.1, here.2]
  · rw [if_neg here]
    simp only [mem, or_iff_left here]

/-- What the two units decide is read off the state before the swap. -/
theorem swapWindow_swapped {done : List (Fin 4 × Fin 8)} (h : WindowsSwapped done s t) (hout : t.output o = s.output o)
    (hw : (o, w) ∉ done) : WindowsSwapped (done ++ [(o, w)]) s (swapWindow o t w) := by
  have record : newRecord t o w = newRecord s o w := by rw [newRecord, hout]
  have content : activeContent t o w = activeContent s o w := by rw [activeContent, State.activeWindow, hout]; rfl
  have transition : t.transition o w = s.transition o w := by rw [h.transition, if_neg hw]
  have freeze : t.freeze o w = s.freeze o w := by rw [h.freeze, if_neg hw]
  have kept := freezeKept_congr h.binding (newRecord s o w)
  have refrozen : freezeSwapped t o w = freezeSwapped s o w := by simp only [freezeSwapped, freeze, record, kept]
  refine ⟨fun o' w' => ?_, fun o' w' => ?_, fun o' w' => ?_, fun i k => ?_,
    fun i => (swapWindow_alters o t w .bindings (by decide) i).trans (h.binding i), (swapWindow_early o t w).trans h.early⟩
  · rw [swapWindow_transition, h.transition o']
    exact write_mem_append _ (fun o w => swapTransition (newRecord s o w) (s.transition o w)) s.transition
      (by rw [record, transition]) o' w'
  · rw [swapWindow_former, h.former]
    exact write_mem_append _ (fun o w => some (activeContent s o w)) s.formerOf (by rw [content]) o' w'
  · rw [swapWindow_freeze, h.freeze]
    exact write_mem_append _ (freezeSwapped s) s.freeze refrozen o' w'
  · have same : released t i k (o, w) = released s i k (o, w) := by simp only [released, freeze, record, kept]
    rw [swapWindow_pins, h.pins, same, List.countP_append, List.countP_singleton, Nat.sub_sub]
    cases released s i k (o, w) <;> rfl

/-! ### The swap -/

/-- The windows of the outputs that swap. -/
def swappedWindows (s : State) (os : List (Fin 4)) : List (Fin 4 × Fin 8) :=
  os.flatMap fun o => if (s.output o).armed then (List.finRange 8).map (o, ·) else []

theorem mem_swappedWindows {os : List (Fin 4)} : (o, w) ∈ swappedWindows s os ↔ o ∈ os ∧ (s.output o).armed = true := by
  simp only [swappedWindows, List.mem_flatMap]
  constructor
  · rintro ⟨o', ho, h⟩
    split at h
    · simp only [List.mem_map, Prod.mk.injEq] at h
      obtain ⟨_, -, rfl, -⟩ := h
      exact ⟨ho, ‹_›⟩
    · cases h
  · rintro ⟨ho, ha⟩
    exact ⟨o, ho, by simp [ha]⟩

theorem swappedWindows_eq (s : State) :
    swappedWindows s (List.finRange 4) = allWindows.filter fun ow => (s.output ow.1).armed := by
  rw [allWindows, List.filter_flatMap, swappedWindows]
  refine congrArg (List.flatMap · _) (funext fun o => ?_)
  rw [List.filter_map]
  cases h : (s.output o).armed <;> simp [Function.comp_def, h]

/-- All windows of one output are taken. -/
theorem swapWindows_swapped {os : List (Fin 4)} (ho : o ∉ os) (h : WindowsSwapped (swappedWindows s os) s t)
    (hout : t.output o = s.output o) : WindowsSwapped (swappedWindows s os ++ (List.finRange 8).map (o, ·)) s
      ((List.finRange 8).foldl (swapWindow o) t) := by
  refine (foldl_induct_once (f := swapWindow o) (Inv := fun ws u => u.output o = s.output o
    ∧ WindowsSwapped (swappedWindows s os ++ ws.map (o, ·)) s u) (fun ws w u hw hu => ?_) (List.nodup_finRange 8)
    ⟨hout, by rw [List.map_nil, List.append_nil]; exact h⟩).2
  refine ⟨(swapWindow_output o u w o).trans hu.1, ?_⟩
  rw [List.map_append, ← List.append_assoc]
  refine swapWindow_swapped hu.2 hu.1 ?_
  simp [mem_swappedWindows, ho, hw]

theorem swapOutput_swapped {os : List (Fin 4)} (ho : o ∉ os) (h : WindowsSwapped (swappedWindows s os) s t)
    (hout : ∀ o, o ∉ os → t.output o = s.output o) :
    WindowsSwapped (swappedWindows s (os ++ [o])) s (swapOutput o t) ∧ ∀ o', o' ∉ os ++ [o] → (swapOutput o t).output o' = s.output o' := by
  have same := hout o ho
  refine ⟨?_, fun o' ho' => ?_⟩
  · have windows : swappedWindows s (os ++ [o])
        = swappedWindows s os ++ if (s.output o).armed then (List.finRange 8).map (o, ·) else [] := by simp [swappedWindows]
    rw [windows, swapOutput, same]
    split
    · have windowsSwapped := swapWindows_swapped ho h same
      simp only
      generalize (List.finRange 8).foldl (swapWindow o) t = v at windowsSwapped ⊢
      obtain ⟨transition, former, freeze, pins, binding, early⟩ := windowsSwapped
      exact ⟨transition, former, freeze, pins, binding, early⟩
    · rw [List.append_nil]
      exact h
  · obtain ⟨hos, hne⟩ : o' ∉ os ∧ o' ≠ o := by simpa using ho'
    rw [State.output, swapOutput_outputs, tget_tset, if_neg (Ne.symm hne)]
    exact hout o' hos

theorem swapPart_swapped (s : State) : WindowsSwapped (swappedWindows s (List.finRange 4)) s (swapPart s) :=
  (foldl_induct_once (f := fun s o => swapOutput o s) (Inv := fun os u => WindowsSwapped (swappedWindows s os) s u
    ∧ ∀ o, o ∉ os → u.output o = s.output o) (fun _ _ _ ho h => swapOutput_swapped ho h.1 h.2) (List.nodup_finRange 4)
    ⟨.refl s, fun _ _ => rfl⟩).1

/-! ### What the swap makes of a window -/

theorem mem_swapped : (o, w) ∈ swappedWindows s (List.finRange 4) ↔ (s.output o).armed = true :=
  mem_swappedWindows.trans (and_iff_right (List.mem_finRange o))

theorem swapPart_transition (s : State) (o : Fin 4) (w : Fin 8) : (swapPart s).transition o w
    = if (s.output o).armed = true then swapTransition (newRecord s o w) (s.transition o w) else s.transition o w := by
  simp only [(swapPart_swapped s).transition, mem_swapped]

theorem swapPart_former (s : State) (o : Fin 4) (w : Fin 8) : (swapPart s).formerOf o w
    = if (s.output o).armed = true then some (activeContent s o w) else s.formerOf o w := by
  simp only [(swapPart_swapped s).former, mem_swapped]

theorem swapPart_freeze (s : State) (o : Fin 4) (w : Fin 8) : (swapPart s).freeze o w
    = if (s.output o).armed = true then freezeSwapped s o w else s.freeze o w := by
  simp only [(swapPart_swapped s).freeze, mem_swapped]

theorem swapPart_pins (s : State) (i : Fin 8) (k : Fin 3) : pinsOf (swapPart s) i k
    = pinsOf s i k - allWindows.countP fun ow => released s i k ow && (s.output ow.1).armed := by
  rw [(swapPart_swapped s).pins, swappedWindows_eq, List.countP_filter]

theorem swapPart_early (s : State) : (swapPart s).early = s.early := (swapPart_swapped s).early

theorem swapPart_output (s : State) (o : Fin 4) : (swapPart s).output o = swapped (s.output o) := by
  rw [State.output, swapPart_outputs, tget_tmap, State.output]

theorem swapped_armed (out : Output) : (swapped out).armed = false := by
  unfold swapped
  split
  · rfl
  · exact Bool.eq_false_iff.2 ‹_›

/-- After a bank swap a window holds what it held in the pending bank (R14). -/
theorem swapPart_activeContent (s : State) (o : Fin 4) (w : Fin 8) : activeContent (swapPart s) o w
    = if (s.output o).armed = true then pendingContent s o w else activeContent s o w := by
  rw [activeContent, State.activeWindow, swapPart_output, swapped]
  split <;> rfl

/-- Without a record in the new active bank a transition ends (R81). -/
theorem swapTransition_none (x : TransitionRecord) : swapTransition none x = .idle := by
  cases x <;> rfl

/-- A transition that belongs to what the new record holds is kept, and every other one ends (R81). -/
theorem swapTransition_running {new : Option WindowRecord} (x : Transition) : swapTransition new (.running x)
    = if new.map WindowRecord.content = some (Transition.owner x) then .running x else .idle := by
  unfold swapTransition Transition.owner
  cases new with
  | none => rfl
  | some r =>
    cases h : x.origin <;> simp [h]

end Sys2Proof.Proofs
end

section
/-! PROOFS. The output frame end, window by window: what each part leaves of a window's contents, freeze and transition (R14, R78, R92). -/

namespace Sys2Proof.Proofs

open Sys2Proof.Machine Sys2Proof.Claims Sys2Proof.Safety

variable {s t u : State} {o : Fin 4} {w : Fin 8} {z : FrameEndPart}

/-! ### Contents -/

/-- Only the swap changes what a window holds, in either bank, and whether its output is armed. -/
theorem framePart_contents (hz : z ≠ .swap) (s : State) (o : Fin 4) (w : Fin 8) :
    activeContent (framePart z s) o w = activeContent s o w ∧ pendingContent (framePart z s) o w = pendingContent s o w
      ∧ ((framePart z s).output o).armed = (s.output o).armed := by
  have output : (framePart z s).output o = s.output o := by rw [State.output, framePart_outputs hz, State.output]
  simp only [activeContent, State.activeWindow, pendingContent, output, and_self]

/-- A window goes on holding what it holds in both banks, where its output swaps. -/
theorem framePart_holds {c : Content} (z : FrameEndPart) (h : Holds s o w c) : Holds (framePart z s) o w c := by
  by_cases hz : z = .swap
  · subst hz
    obtain ⟨active, pending⟩ := h
    refine ⟨?_, .inl ?_⟩
    · rw [framePart, swapPart_activeContent]
      split
      · rename_i armed
        exact pending.resolve_left (by rw [armed]; decide)
      · exact active
    · rw [framePart, swapPart_output, swapped_armed]
  · obtain ⟨active, pending, armed⟩ := framePart_contents hz s o w
    rw [Holds, active, pending, armed]
    exact h

theorem framePart_former (hz : z ≠ .swap) (s : State) (o : Fin 4) (w : Fin 8) :
    (framePart z s).formerOf o w = s.formerOf o w := by
  have former : (framePart z s).former = s.former := by
    by_cases hl : z = .lists
    · subst hl
      exact listPart_former s
    · exact (Prod.mk.inj (framePart_noted ⟨hz, hl⟩ s)).1
  rw [State.formerOf, former, State.formerOf]

theorem framePart_early (hz : z ≠ .lists) (s : State) : (framePart z s).early = s.early := by
  by_cases hl : z = .swap
  · subst hl
    exact swapPart_early s
  · exact (Prod.mk.inj (framePart_noted ⟨hl, hz⟩ s)).2

/-! ### Armed freezes -/

/-- An armed freeze is taken, or it waits, STM having selected. -/
theorem takeArmed_cases {tag : Byte} {i : Fin 8} (h : s.freeze o w = .armed tag i) : takeArmed o w s = selectStore i s
    ∨ ∃ j shared, takeArmed o w s = takeFreeze o w i j shared (selectStore i s) := by
  simp only [takeArmed, h]
  split
  · exact .inl rfl
  · split
    · split
      · exact .inr ⟨_, _, rfl⟩
      · exact .inr ⟨_, _, rfl⟩
      · exact .inl rfl
    · exact .inl rfl

theorem takeArmed_unarmed (h : ∀ tag i, s.freeze o w ≠ .armed tag i) : takeArmed o w s = s := by
  unfold takeArmed
  split
  · exact absurd ‹_› (h _ _)
  · rfl

theorem selectStore_transition (i : Fin 8) (s : State) (o : Fin 4) (w : Fin 8) :
    (selectStore i s).transition o w = s.transition o w := by
  unfold selectStore
  split <;> rfl

/-- A window's freeze and transition are as they were, or the window was ARMED and is FROZEN on its store, its transition IDLE (R84). -/
def FreezeOrTake (o : Fin 4) (w : Fin 8) (s t : State) : Prop :=
  (t.freeze o w = s.freeze o w ∧ t.transition o w = s.transition o w)
    ∨ ∃ tag i j shared, s.freeze o w = .armed tag i ∧ t.freeze o w = .frozen i j shared ∧ t.transition o w = .idle

theorem takeArmed_other {o' : Fin 4} {w' : Fin 8} (hne : ¬ (o' = o ∧ w' = w)) (s : State) :
    (takeArmed o' w' s).freeze o w = s.freeze o w ∧ (takeArmed o' w' s).transition o w = s.transition o w := by
  cases h : s.freeze o' w' with
  | armed tag i =>
    have selected := And.intro (selectStore_freeze i s o w) (selectStore_transition i s o w)
    rcases takeArmed_cases h with e | ⟨j, shared, e⟩ <;> rw [e]
    · exact selected
    · rw [takeFreeze, State.setTransition_freeze, State.setFreeze_freeze, if_neg hne, State.setTransition_transition, if_neg hne]
      exact selected
  | _ => rw [takeArmed_unarmed (by simp [h])]; exact ⟨rfl, rfl⟩

theorem takeArmed_own (o : Fin 4) (w : Fin 8) (s : State) : FreezeOrTake o w s (takeArmed o w s) := by
  cases h : s.freeze o w with
  | armed tag i =>
    rcases takeArmed_cases h with e | ⟨j, shared, e⟩ <;> rw [e]
    · exact .inl ⟨selectStore_freeze i s o w, selectStore_transition i s o w⟩
    · exact .inr ⟨tag, i, j, shared, h, by simp [takeFreeze], by simp [takeFreeze]⟩
  | _ => rw [takeArmed_unarmed (by simp [h])]; exact .inl ⟨rfl, rfl⟩

theorem takeArmed_freezeOrTake (o' : Fin 4) (w' : Fin 8) (s : State) : FreezeOrTake o w s (takeArmed o' w' s) := by
  by_cases here : o' = o ∧ w' = w
  · obtain ⟨rfl, rfl⟩ := here
    exact takeArmed_own _ _ s
  · exact .inl (takeArmed_other here s)

theorem FreezeOrTake.trans (h : FreezeOrTake o w s t) (k : FreezeOrTake o w t u) : FreezeOrTake o w s u := by
  rcases h with ⟨hf, ht⟩ | ⟨tag, i, j, shared, ha, hf, ht⟩
  · rw [FreezeOrTake, hf, ht] at k
    exact k
  · refine .inr ⟨tag, i, j, shared, ha, ?_⟩
    rcases k with ⟨kf, kt⟩ | ⟨tag', i', j', shared', ka, -⟩
    · exact ⟨kf.trans hf, kt.trans ht⟩
    · rw [hf] at ka
      cases ka

theorem freezePart_freezeOrTake (s : State) : FreezeOrTake o w s (freezePart s) := by
  rw [freezePart]
  generalize allWindows = windows
  exact foldl_keeps (P := FreezeOrTake o w s) (fun t ow h => h.trans (takeArmed_freezeOrTake ow.1 ow.2 t)) windows (.inl ⟨rfl, rfl⟩)

/-! ### Freeze records -/

theorem framePart_freeze (hz : z ≠ .swap ∧ z ≠ .freezes) (s : State) (o : Fin 4) (w : Fin 8) :
    (framePart z s).freeze o w = s.freeze o w := by
  have same : (framePart z s).freezes = s.freezes := framePart_alters z s .freezes (by revert hz; cases z <;> decide)
  rw [State.freeze, same, State.freeze]

/-- No part of an output frame end arms or freezes a window anew: what a record names after it, it named before. -/
theorem framePart_storeNamed (z : FrameEndPart) (s : State) (o : Fin 4) (w : Fin 8) :
    storeNamed ((framePart z s).freeze o w) = storeNamed (s.freeze o w) ∨ (framePart z s).freeze o w = .none := by
  by_cases hs : z = .swap
  · subst hs
    rw [framePart, swapPart_freeze, freezeSwapped]
    split
    · split
      · exact .inl rfl
      · exact .inr rfl
    · exact .inl rfl
  · by_cases hf : z = .freezes
    · subst hf
      refine .inl ?_
      rw [framePart]
      rcases freezePart_freezeOrTake (o := o) (w := w) s with ⟨same, -⟩ | ⟨tag, i, j, shared, armed, frozen, -⟩
      · rw [same]
      · rw [frozen, armed]
        rfl
    · rw [framePart_freeze ⟨hs, hf⟩]
      exact .inl rfl

theorem framePart_unnamed {i : Fin 8} (z : FrameEndPart) (h : storeNamed (s.freeze o w) ≠ some i) :
    storeNamed ((framePart z s).freeze o w) ≠ some i := by
  rcases framePart_storeNamed z s o w with e | e <;> rw [e]
  · exact h
  · simp [storeNamed]

theorem storeNamed_eq_none {f : FreezeRecord} : storeNamed f = none ↔ f = .none := by
  cases f <;> simp [storeNamed]

theorem framePart_freeze_none (z : FrameEndPart) (h : s.freeze o w = .none) : (framePart z s).freeze o w = .none := by
  rcases framePart_storeNamed z s o w with e | e
  · rw [h] at e
    exact storeNamed_eq_none.1 e
  · exact e

/-! ### Transitions -/

theorem framePart_transition (hz : z ≠ .swap ∧ z ≠ .transitions ∧ z ≠ .lists ∧ z ≠ .freezes) (s : State) (o : Fin 4) (w : Fin 8) :
    (framePart z s).transition o w = s.transition o w := by
  have same : (framePart z s).transitions = s.transitions := framePart_alters z s .transitions (by revert hz; cases z <;> decide)
  rw [State.transition, same, State.transition]

theorem freezePart_transition (h : s.freeze o w = .none) : (freezePart s).transition o w = s.transition o w := by
  rcases freezePart_freezeOrTake (o := o) (w := w) s with ⟨-, e⟩ | ⟨tag, i, -, -, ha, -⟩
  · exact e
  · rw [h] at ha
    cases ha

/-- The transition that runs belongs to content `c`, if one runs (R81, R109). -/
def BelongsTo (c : Content) (x : TransitionRecord) : Prop := ∀ y, x = .running y → Transition.owner y = c

theorem belongsTo_idle (c : Content) : BelongsTo c .idle := fun _ h => by cases h

theorem BelongsTo.advance {c : Content} {x : TransitionRecord} (h : BelongsTo c x) : BelongsTo c (advanceRecord x) := by
  cases x with
  | idle => exact belongsTo_idle c
  | running y =>
    simp only [advanceRecord]
    split
    · exact belongsTo_idle c
    · rintro _ ⟨⟩
      exact h y rfl

theorem belongsTo_started (a b : Shown) (style : Style) (d : Nat) (r : Fin 4) : BelongsTo (.list r) (started a b style d (.list r)) := by
  unfold started
  split
  · exact belongsTo_idle _
  · rintro _ ⟨⟩
    rfl

/-- A swap keeps a transition that belongs to what the window goes on holding (R81). -/
theorem swapPart_transition_of_holds {c : Content} (hc : Holds s o w c) (hx : BelongsTo c (s.transition o w)) :
    (swapPart s).transition o w = s.transition o w := by
  rw [swapPart_transition]
  split
  · rename_i armed
    have pending : (newRecord s o w).map WindowRecord.content = some c := hc.2.resolve_left (by rw [armed]; decide)
    cases h : s.transition o w with
    | idle => rfl
    | running y => rw [swapTransition_running, if_pos (by rw [pending, hx y h])]
  · rfl

/-- Only RGU's raster part changes the raster in force (R119). -/
theorem framePart_raster (hz : z ≠ .raster) (s : State) : (framePart z s).rgu.raster = s.rgu.raster := by
  have quiet : ∀ l, Facet.rgu ∉ l → Alters l s (framePart z s) → (framePart z s).rgu.raster = s.rgu.raster :=
    fun l hl h => congrArg Rgu.raster (h .rgu hl)
  cases z with
  | raster => exact absurd rfl hz
  | silence =>
    refine foldl_same (g := fun s => s.rgu.raster) (fun s i => ?_) _ s
    split
    · rfl
    · simp only [countSilence]
      split
      · rfl
      · split
        · unfold leaveLive
          split <;> simp [referenceLoss]
        · simp
  | genlock =>
    rw [framePart, genlockPart]
    split
    · rfl
    · unfold genlockWork
      simp only
      split
      · rfl
      · rfl
      · simp
  | count => rfl
  | selection | swap | transitions | lists | freezes | survey => exact quiet _ (by decide) (framePart_alters _ s)

end Sys2Proof.Proofs
end

section
/-! PROOFS. The rotation lists at an output frame end, in any order of its blocks (R74, R78, R79, R82, R106 to R109). -/

namespace Sys2Proof.Proofs

open Sys2Proof.Machine Sys2Proof.Claims Sys2Proof.Safety

variable {s t u : State} {o : Fin 4} {w : Fin 8} {r : Fin 4} {z : FrameEndPart} {order : List FrameEndPart}

/-! ### A window of the list -/

/-- A window goes on being bound to list `r`, no freeze is on it, and it takes a start of the list. -/
structure StaysBound (o : Fin 4) (w : Fin 8) (r : Fin 4) (s : State) : Prop where
  holds : Holds s o w (.list r)
  former : s.formerOf o w = none ∨ s.formerOf o w = some (some (.list r))
  freeze : s.freeze o w = .none

theorem StaysBound.asked (h : StaysBound o w r s) : Asked s o w r := ⟨h.holds.1, h.former⟩

theorem StaysBound.framePart (z : FrameEndPart) (h : StaysBound o w r s) : StaysBound o w r (framePart z s) := by
  refine ⟨framePart_holds z h.holds, ?_, framePart_freeze_none z h.freeze⟩
  by_cases hz : z = .swap
  · subst hz
    rw [Machine.framePart, swapPart_former, h.holds.1]
    split
    · exact .inr rfl
    · exact h.former
  · rw [framePart_former hz]
    exact h.former

/-- The list has left record `x` on its window, and marked it if it runs (R78). -/
structure StartKept (o : Fin 4) (w : Fin 8) (r : Fin 4) (x : TransitionRecord) (s : State) : Prop where
  bound : StaysBound o w r s
  transition : s.transition o w = x
  belongs : BelongsTo (.list r) x
  marked : x ≠ .idle → FrameEndMark.transition o w ∈ s.early

/-- What a start leaves is kept by a swap, and not advanced at this output frame end. -/
theorem StartKept.framePart {x : TransitionRecord} (hz : z ≠ .lists) (h : StartKept o w r x s) :
    StartKept o w r x (framePart z s) := by
  refine ⟨h.bound.framePart z, ?_, h.belongs, by rw [framePart_early hz]; exact h.marked⟩
  rw [← h.transition]
  by_cases other : z ≠ .swap ∧ z ≠ .transitions ∧ z ≠ .lists ∧ z ≠ .freezes
  · exact framePart_transition other s o w
  · cases z with
    | swap => exact swapPart_transition_of_holds h.bound.holds (h.transition ▸ h.belongs)
    | transitions =>
      rw [Machine.framePart, transitionPart_transition]
      split
      · rfl
      · rename_i unmarked
        have idle : x = .idle := by
          by_contra running
          exact unmarked (decide_eq_true (h.marked running))
        rw [h.transition, idle]
        rfl
    | lists => exact absurd rfl hz
    | freezes => exact freezePart_transition h.bound.freeze
    | _ => exact absurd (by simp) other

/-! ### The state at which the lists are taken -/

theorem order_around (order : List FrameEndPart) (z : FrameEndPart) :
    ∃ xs ys, completeOrder order = xs ++ z :: ys ∧ z ∉ xs ∧ z ∉ ys ∧ ∀ x, x ∉ xs ∨ x ∉ ys := by
  obtain ⟨xs, ys, horder⟩ := List.append_of_mem (mem_completeOrder order z)
  have once := completeOrder_nodup order
  rw [horder, List.nodup_append, List.nodup_cons] at once
  obtain ⟨-, ⟨notAfter, -⟩, apart⟩ := once
  refine ⟨xs, ys, horder, fun h => apart _ h _ List.mem_cons_self rfl, notAfter, fun x => ?_⟩
  by_cases hx : x ∈ xs
  · exact .inr fun hy => apart x hx x (List.mem_cons_of_mem _ hy) rfl
  · exact .inl hx

/-- What only part `z` changes is as it was after parts among which it is not. -/
theorem frameParts_without {β : Type} {g : State → β} (keep : ∀ x, x ≠ z → ∀ s, g (framePart x s) = g s) {xs : List FrameEndPart}
    (hz : z ∉ xs) (s : State) : g (xs.foldl (fun s x => framePart x s) s) = g s :=
  foldl_keeps_mem (P := fun t => g t = g s) (fun t x hx h => (keep x (fun e => hz (e ▸ hx)) t).trans h) rfl

/-- The store states and bindings are as they were. -/
theorem FramedAlike.sourceLive (h : FramedAlike s t) : t.sourceLive = s.sourceLive := by
  have binding : ∀ i, (t.store i).binding = (s.store i).binding := fun i => by
    have same := congrArg Store.binding (h.framed i)
    exact same
  have state : ∀ i, (t.store i).state = (s.store i).state := fun i => by
    have same := congrArg Store.state (h.framed i)
    exact same
  funext src
  simp only [State.sourceLive, State.storeOf, binding, state]

/-- `u` is the state at which an output frame end takes the lists. -/
structure AtLists (order : List FrameEndPart) (s u : State) : Prop where
  lists : u.lists = s.lists
  early : u.early = s.early
  live : u.sourceLive = s.sourceLive ∨ u.sourceLive = (afterParts order s).sourceLive
  outputs : u.outputs = s.outputs ∨ u.outputs = (afterParts order s).outputs
  raster : u.rgu.raster = s.rgu.raster ∨ u.rgu.raster = (afterParts order s).rgu.raster
  bound : ∀ o w r, StaysBound o w r s → StaysBound o w r u
  moved : (afterParts order s).lists = (listPart u).lists
  startKept : ∀ o w r x, StartKept o w r x (listPart u) → StartKept o w r x (afterParts order s)

theorem exists_atLists (order : List FrameEndPart) (s : State) : ∃ u, AtLists order s u := by
  obtain ⟨xs, ys, horder, notBefore, notAfter, apart⟩ := order_around order .lists
  have parts : afterParts order s
      = ys.foldl (fun s x => framePart x s) (listPart (xs.foldl (fun s x => framePart x s) s)) := by
    rw [afterParts, horder, List.foldl_append, List.foldl_cons, framePart]
  have lists : ∀ x, x ≠ .lists → ∀ s, (framePart x s).lists = s.lists := fun x hx s =>
    framePart_touches x s .lists (by revert hx; cases x <;> decide)
  have around : ∀ {β : Type} {g : State → β} (z : FrameEndPart), z ≠ .lists → (∀ x, x ≠ z → ∀ s, g (framePart x s) = g s) →
      g (xs.foldl (fun s x => framePart x s) s) = g s
        ∨ g (xs.foldl (fun s x => framePart x s) s) = g (afterParts order s) := by
    intro β g z hz keep
    rcases apart z with h | h
    · exact .inl (frameParts_without keep h s)
    · right
      rw [parts, frameParts_without keep h]
      exact (keep .lists (Ne.symm hz) _).symm
  refine ⟨xs.foldl (fun s x => framePart x s) s, frameParts_without lists notBefore s,
    frameParts_without (fun x hx s => framePart_early hx s) notBefore s,
    around .silence (by decide) fun x hx s => (framePart_framed hx s).sourceLive,
    around .swap (by decide) fun x hx s => framePart_outputs hx s,
    around (g := fun s => s.rgu.raster) .raster (by decide) fun x hx s => framePart_raster hx s,
    fun o w r h => foldl_keeps (fun s x h => h.framePart x) xs h, ?_, fun o w r x h => ?_⟩
  · rw [parts, frameParts_without lists notAfter]
  · rw [parts]
    exact foldl_keeps_mem (fun s y hy h => h.framePart fun e => notAfter (e ▸ hy)) h

/-- A start that a list asks for stands on its window at the end (R78, R79). -/
theorem AtLists.transition {b : Shown} {style : Style} {d : Nat} (h : AtLists order s u) (hm : FrameEndMark.list r ∉ s.early)
    (start : listStart u r = some (b, style, d)) (bound : StaysBound o w r s) :
    (frameEnd order s).transition o w = started (leftBy u o w) b style (durationTaken style d) (.list r) := by
  have asked := (h.bound o w r bound).asked
  have starts : Starts u r o w (startOn u r b style d o w) := ⟨by rw [h.early]; exact hm, by rw [windowStart, if_pos asked, start]; rfl⟩
  have taken := listPart_taken u
  have kept : StartKept o w r (startOn u r b style d o w) (listPart u) := by
    refine ⟨(h.bound o w r bound).framePart .lists, taken.started r (List.mem_finRange r) o w _ starts,
      belongsTo_started _ _ _ _ r, fun running => ?_⟩
    exact (taken.early _).2 (.inr ⟨r, List.mem_finRange r, o, w, _, starts, running, rfl⟩)
  exact (h.startKept o w r _ kept).transition

/-- The list at the end of the output frame end. -/
theorem AtLists.list (h : AtLists order s u) (r : Fin 4) : (frameEnd order s).list r
    = if FrameEndMark.list r ∈ s.early then s.list r else listNext u r := by
  have last : (frameEnd order s).list r = (listPart u).list r := congrArg (tget · r) h.moved
  have same : u.list r = s.list r := by rw [State.list, h.lists, State.list]
  rw [last]
  split
  · rename_i hm
    rw [(listPart_taken u).marked r (by rw [h.early]; exact hm), same]
  · rename_i hm
    exact (listPart_taken u).moved r (List.mem_finRange r) (by rw [h.early]; exact hm)

/-- Settles O47, from the state at which the lists are taken. -/
theorem frameEndTakesTheLists : Obligations.FrameEndTakesTheLists := by
  intro order s running
  obtain ⟨u, h⟩ := exists_atLists order s
  have list := h.list
  refine ⟨frameEnd order s, u.sourceLive, congrArg _ (if_pos running), h.live.imp congrFun congrFun, fun r => ⟨fun hm => ?_,
    fun hm => ?_⟩⟩
  · rw [list, if_pos hm]
  have same : u.list r = s.list r := by rw [State.list, h.lists, State.list]
  have next : (frameEnd order s).list r = listNext u r := by rw [list, if_neg hm]
  rw [next]
  refine ⟨fun st staged => ⟨?_, fun o w first cur hfirst hcur holds former freeze => ?_, fun o w first hfirst empty holds former
    freeze => ?_⟩, fun unstaged => ⟨fun empty => ?_, fun entries waits => ?_, fun entries out => ⟨fun dead => ?_,
    fun m src hm1 hmn hsrc live firstLive => ?_⟩⟩⟩
  · simp only [listNext, same, staged]
  · have start : listStart u r = some (.source first, .cut, 1) := by
      simp only [listStart, same, staged, List.head?_eq_getElem?, hfirst, Option.map_some]
    have bound : StaysBound o w r s := ⟨holds, .inl former, freeze⟩
    rw [h.transition hm start bound, leftBy_entry (h.bound o w r bound).holds.1 (by rw [same]; exact hcur)]
    rfl
  · have start : listStart u r = some (.source first, .cut, 1) := by
      simp only [listStart, same, staged, List.head?_eq_getElem?, hfirst, Option.map_some]
    have bound : StaysBound o w r s := ⟨holds, .inl former, freeze⟩
    obtain ⟨x, hx, hc⟩ := Option.map_eq_some_iff.1 (h.bound o w r bound).holds.1
    refine ⟨x, u.rgu.raster.background, ?_, h.raster.imp (congrArg Raster.background) (congrArg Raster.background), ?_⟩
    · exact h.outputs.imp (fun e => by rw [State.activeWindow, State.output, ← e]; exact hx)
        (fun e => by rw [State.activeWindow, State.output]; exact e ▸ hx)
    · rw [h.transition hm start bound, leftBy_empty hx hc (by rw [same]; exact empty)]
      rfl
  · simp only [listNext, same, unstaged, if_pos empty]
  · simp only [listNext, same, unstaged, if_neg entries, if_neg (Nat.not_le.2 waits)]
  · simp only [listNext, same, unstaged, if_neg entries, if_pos out, nextLive_none dead, Option.map_none, Option.getD_none]
  · have found := nextLive_some hm1 hmn hsrc live firstLive
    refine ⟨?_, fun o w cur hcur holds former freeze => ?_⟩
    · simp only [listNext, same, unstaged, if_neg entries, if_pos out, found, Option.map_some, Option.getD_some]
    · have start : listStart u r = some (.source src, (s.list r).style, (s.list r).duration) := by
        simp only [listStart, same, unstaged, entries, out, found, ne_eq, not_false_eq_true, and_self, if_true, Option.map_some]
      have bound : StaysBound o w r s := ⟨holds, .inl former, freeze⟩
      rw [h.transition hm start bound, leftBy_entry (h.bound o w r bound).holds.1 (by rw [same]; exact hcur)]

end Sys2Proof.Proofs
end

section
/-! PROOFS. Transitions at an output frame end, in any order of its blocks (R78, R79, R81, R82). -/

namespace Sys2Proof.Proofs

open Sys2Proof.Machine Sys2Proof.Claims Sys2Proof.Safety

variable {s t u : State} {o : Fin 4} {w : Fin 8} {z : FrameEndPart} {order : List FrameEndPart}

/-! ### Windows that no list starts -/

/-- A list that has nothing to do, or is marked, starts no window (R106, R107). -/
theorem not_starts_of_noStart (h : NoStart s o w) (r : Fin 4) (x : TransitionRecord) : ¬ Starts s r o w x := by
  intro hx
  rcases h r hx.asked.1 with hm | ⟨unstaged, waits⟩
  · exact hx.1 hm
  · have nothing : listStart s r = none := by
      simp only [listStart, unstaged]
      rw [if_neg]
      rintro ⟨entries, out⟩
      rcases waits with empty | waits
      · exact entries empty
      · omega
    have := hx.2
    rw [windowStart, nothing, Option.map_none, ite_self] at this
    cases this

/-- `NoStart` reads the window's content, the lists and their marks. -/
theorem noStart_congr (h : NoStart s o w) (hc : activeContent t o w = activeContent s o w) (hl : t.lists = s.lists)
    (he : t.early = s.early) : NoStart t o w := by
  intro r bound
  have same : t.list r = s.list r := by rw [State.list, hl, State.list]
  rw [he, same]
  exact h r (hc ▸ bound)

/-! ### A transition advances once -/

/-- The window's content stays at this output frame end, and so does what its transition belongs to. -/
def Steady (x : TransitionRecord) (o : Fin 4) (w : Fin 8) (s : State) : Prop :=
  (s.output o).armed = false ∨ ∃ c, Holds s o w c ∧ BelongsTo c x

theorem Steady.framePart {x : TransitionRecord} (z : FrameEndPart) (h : Steady x o w s) : Steady x o w (framePart z s) := by
  rcases h with unarmed | ⟨c, holds, belongs⟩
  · left
    by_cases hz : z = .swap
    · rw [hz, Machine.framePart, swapPart_output, swapped_armed]
    · rw [(framePart_contents hz s o w).2.2, unarmed]
  · exact .inr ⟨c, framePart_holds z holds, belongs⟩

theorem Steady.advance {x : TransitionRecord} (h : Steady x o w s) : Steady (advanceRecord x) o w s :=
  h.imp_right fun ⟨c, holds, belongs⟩ => ⟨c, holds, belongs.advance⟩

theorem Steady.active {x : TransitionRecord} (h : Steady x o w s) : activeContent (swapPart s) o w = activeContent s o w := by
  rw [swapPart_activeContent]
  split
  · rename_i armed
    rcases h with unarmed | ⟨c, ⟨active, pending⟩, -⟩
    · rw [unarmed] at armed; cases armed
    · rw [active, pending.resolve_left (by rw [armed]; decide)]
  · rfl

theorem Steady.swap (h : Steady (s.transition o w) o w s) : (swapPart s).transition o w = s.transition o w := by
  rcases h with unarmed | ⟨c, holds, belongs⟩
  · rw [swapPart_transition, if_neg (by rw [unarmed]; decide)]
  · exact swapPart_transition_of_holds holds belongs

/-- Of a window with transition `x` and no freeze, whose content stays and which no list starts: the transition has been advanced if the
transitions have been taken and it is not marked. -/
structure Advancing (m : Prop) [Decidable m] (x : TransitionRecord) (o : Fin 4) (w : Fin 8) (done : List FrameEndPart) (s : State) :
    Prop where
  steady : Steady x o w s
  freeze : s.freeze o w = .none
  noStart : .lists ∉ done → NoStart s o w
  marked : FrameEndMark.transition o w ∈ s.early ↔ m
  transition : s.transition o w = if .transitions ∈ done ∧ ¬ m then advanceRecord x else x

theorem Advancing.framePart {m : Prop} [Decidable m] {x : TransitionRecord} {done : List FrameEndPart} (hz : z ∉ done)
    (h : Advancing m x o w done s) : Advancing m x o w (done ++ [z]) (framePart z s) := by
  have mem : ∀ {y : FrameEndPart}, y ∈ done ++ [z] ↔ y ∈ done ∨ y = z := by simp
  have record : Steady (s.transition o w) o w s := by
    rw [h.transition]
    split
    · exact h.steady.advance
    · exact h.steady
  refine ⟨h.steady.framePart z, framePart_freeze_none z h.freeze, fun hl => ?_, ?_, ?_⟩
  · obtain ⟨notYet, hne⟩ := not_or.1 (mt mem.2 hl)
    refine noStart_congr (h.noStart notYet) ?_ (framePart_touches z s .lists (by revert hne; cases z <;> decide))
      (framePart_early (Ne.symm hne) s)
    by_cases hs : z = .swap
    · subst hs
      exact h.steady.active
    · exact (framePart_contents hs s o w).1
  · by_cases hl : z = .lists
    · subst hl
      exact (listPart_kept (not_starts_of_noStart (h.noStart hz))).2.trans h.marked
    · rw [framePart_early hl]
      exact h.marked
  · by_cases ht : z = .transitions
    · subst ht
      rw [Machine.framePart, transitionPart_transition]
      simp only [State.marked, h.marked, h.transition, hz, mem, decide_eq_true_eq, false_and, if_false, or_true, true_and, ite_not]
    · have same : (Machine.framePart z s).transition o w = s.transition o w := by
        by_cases hs : z = .swap
        · subst hs
          exact record.swap
        · by_cases hl : z = .lists
          · subst hl
            exact (listPart_kept (not_starts_of_noStart (h.noStart hz))).1
          · by_cases hf : z = .freezes
            · subst hf
              exact freezePart_transition h.freeze
            · exact framePart_transition ⟨hs, ht, hl, hf⟩ s o w
      rw [same, h.transition]
      simp only [mem, Ne.symm ht, or_false]

/-- A transition advances once, unless it is marked (R78). -/
theorem frameEnd_advances (freeze : s.freeze o w = .none) (noStart : NoStart s o w) (steady : Steady (s.transition o w) o w s) :
    (frameEnd order s).transition o w
      = if FrameEndMark.transition o w ∈ s.early then s.transition o w else advanceRecord (s.transition o w) := by
  have parts := afterParts_induct (Inv := Advancing (FrameEndMark.transition o w ∈ s.early) (s.transition o w) o w)
    (fun done z s hz h => h.framePart hz) order ⟨steady, freeze, fun _ => noStart, Iff.rfl, by simp⟩
  refine parts.transition.trans ?_
  simp only [mem_completeOrder, true_and, ite_not]

theorem advanceRecord_running (x : Transition) : advanceRecord (.running x) = advanced x := by
  by_cases last : x.duration ≤ x.position + 1
  · simp only [advanceRecord, advanced, if_pos last, if_neg (Nat.not_lt.2 last)]
  · simp only [advanceRecord, advanced, if_neg last, if_pos (Nat.not_le.1 last)]

/-! ### Windows at rest -/

/-- No transition runs on the window, and it takes no start. -/
structure AtRest (o : Fin 4) (w : Fin 8) (s : State) : Prop where
  idle : s.transition o w = .idle
  unasked : ∀ r, ¬ Asked s o w r

theorem AtRest.framePart (hz : z ≠ .swap) (h : AtRest o w s) : AtRest o w (framePart z s) := by
  refine ⟨?_, fun r => ?_⟩
  · by_cases ht : z = .transitions
    · subst ht
      rw [Machine.framePart, transitionPart_transition, h.idle]
      exact ite_self _
    · by_cases hl : z = .lists
      · subst hl
        exact (listPart_kept fun r x hx => h.unasked r hx.asked).1.trans h.idle
      · by_cases hf : z = .freezes
        · subst hf
          rcases freezePart_freezeOrTake (o := o) (w := w) s with ⟨-, e⟩ | ⟨-, -, -, -, -, -, e⟩
          · exact e.trans h.idle
          · exact e
        · rw [framePart_transition ⟨hz, ht, hl, hf⟩, h.idle]
  · rw [Asked, (framePart_contents hz s o w).1, framePart_former hz]
    exact h.unasked r

/-- A bank swap of an output leaves a window at rest where its transition does not belong to what it then holds, and it holds no longer
what it held (R79, R81, R82). -/
theorem swapPart_atRest (armed : (s.output o).armed = true) (hne : pendingContent s o w ≠ activeContent s o w)
    (belongs : ∀ x, s.transition o w = .running x → activeContent s o w = some (Transition.owner x)) : AtRest o w (swapPart s) := by
  refine ⟨?_, fun r ⟨bound, former⟩ => ?_⟩
  · rw [swapPart_transition, if_pos armed]
    cases h : s.transition o w with
    | idle => rfl
    | running x =>
      rw [swapTransition_running, if_neg]
      intro kept
      exact hne (kept.trans (belongs x h).symm)
  · rw [swapPart_activeContent, if_pos armed] at bound
    rw [swapPart_former, if_pos armed] at former
    simp only [reduceCtorEq, Option.some.injEq, false_or] at former
    exact hne (bound.trans former.symm)

/-- A window of the former active bank that a swap drops. -/
theorem swapPart_dropped (armed : (s.output o).armed = true) (none : pendingContent s o w = none) :
    AtRest o w (swapPart s) ∧ (swapPart s).freeze o w = .none := by
  have record : newRecord s o w = Option.none := Option.map_eq_none_iff.1 none
  refine ⟨⟨?_, fun r ⟨bound, _⟩ => ?_⟩, ?_⟩
  · rw [swapPart_transition, if_pos armed, record, swapTransition_none]
  · rw [swapPart_activeContent, if_pos armed, none] at bound
    cases bound
  · rw [swapPart_freeze, if_pos armed, freezeSwapped]
    split
    · rename_i kept
      refine storeNamed_eq_none.1 (Option.eq_none_iff_forall_not_mem.2 fun i hi => ?_)
      have := kept i hi
      rw [record] at this
      cases this
    · rfl

/-- A window that a swap drops is at rest, without a freeze (R81, R95). -/
theorem frameEnd_dropped (armed : (s.output o).armed = true) (none : pendingContent s o w = none) :
    (frameEnd order s).transition o w = .idle ∧ (frameEnd order s).freeze o w = .none := by
  have parts := afterParts_through (P := fun t => (t.output o).armed = true ∧ pendingContent t o w = Option.none)
    (Q := fun t => AtRest o w t ∧ t.freeze o w = .none) .swap
    (fun z s hz h => by
      obtain ⟨-, pending, armed⟩ := framePart_contents hz s o w
      rw [armed, pending]
      exact h)
    (fun s h => swapPart_dropped h.1 h.2) (fun z s hz h => ⟨h.1.framePart hz, framePart_freeze_none z h.2⟩) order ⟨armed, none⟩
  exact ⟨parts.1.idle, parts.2⟩

/-- What runs on the window belongs to its content. -/
def RunsForContent (o : Fin 4) (w : Fin 8) (s : State) : Prop :=
  ∀ x, s.transition o w = .running x → activeContent s o w = some (Transition.owner x)

theorem RunsForContent.framePart (hz : z ≠ .swap) (h : RunsForContent o w s) : RunsForContent o w (framePart z s) := by
  have content := (framePart_contents hz s o w).1
  have kept : (Machine.framePart z s).transition o w = s.transition o w → RunsForContent o w (Machine.framePart z s) :=
    fun e x hx => content.trans (h x (e.symm.trans hx))
  by_cases ht : z = .transitions
  · subst ht
    intro x hx
    have belongs : ∀ c, activeContent s o w = some c → BelongsTo c (s.transition o w) := fun c hc y hy =>
      Option.some.inj ((h y hy).symm.trans hc)
    rw [content]
    rw [Machine.framePart, transitionPart_transition] at hx
    split at hx
    · exact h x hx
    · cases hr : s.transition o w with
      | idle => rw [hr] at hx; cases hx
      | running y =>
        have hc := h y hr
        rw [hc, (belongs _ hc).advance x hx]
  · by_cases hl : z = .lists
    · subst hl
      by_cases started : ∃ r x, Starts s r o w x
      · obtain ⟨r, x, hx⟩ := started
        intro y hy
        have written := (listPart_taken s).started r (List.mem_finRange r) o w x hx
        have start := hx.2
        rw [windowStart, if_pos hx.asked] at start
        obtain ⟨a, -, rfl⟩ := Option.map_eq_some_iff.1 start
        rw [content, hx.asked.1, belongsTo_started _ _ _ _ r y (written.symm.trans hy)]
      · exact kept (listPart_kept fun r x hx => started ⟨r, x, hx⟩).1
    · by_cases hf : z = .freezes
      · subst hf
        rcases freezePart_freezeOrTake (o := o) (w := w) s with ⟨-, e⟩ | ⟨-, -, -, -, -, -, e⟩
        · exact kept e
        · intro x hx
          rw [Machine.framePart, e] at hx
          cases hx
      · exact kept (framePart_transition ⟨hz, ht, hl, hf⟩ s o w)

/-- A swap to another content ends the transition, and a list does not start one on a window just bound (R79, R81, R82). -/
theorem frameEnd_rebound (armed : (s.output o).armed = true) (hne : pendingContent s o w ≠ activeContent s o w)
    (runs : RunsForContent o w s) : (frameEnd order s).transition o w = .idle := by
  have parts := afterParts_through (P := fun t => (t.output o).armed = true ∧ pendingContent t o w ≠ activeContent t o w
      ∧ RunsForContent o w t) (Q := AtRest o w) .swap
    (fun z s hz ⟨armed, hne, runs⟩ => by
      obtain ⟨active, pending, same⟩ := framePart_contents hz s o w
      rw [same, pending, active]
      exact ⟨armed, hne, runs.framePart hz⟩)
    (fun s h => swapPart_atRest h.1 h.2.1 h.2.2) (fun z s hz h => h.framePart hz) order ⟨armed, hne, runs⟩
  exact parts.idle

/-! ### Windows that show a source -/

/-- The window goes on showing a source, and no transition runs on it. -/
structure IdleSource (o : Fin 4) (w : Fin 8) (src : Fin 16) (s : State) : Prop where
  holds : Holds s o w (.source src)
  idle : s.transition o w = .idle

theorem IdleSource.framePart {src : Fin 16} (z : FrameEndPart) (h : IdleSource o w src s) : IdleSource o w src (framePart z s) := by
  refine ⟨framePart_holds z h.holds, ?_⟩
  by_cases hz : z = .swap
  · subst hz
    exact (swapPart_transition_of_holds h.holds (by rw [h.idle]; exact belongsTo_idle _)).trans h.idle
  · have rest : AtRest o w s := ⟨h.idle, fun r asked => by
      have := h.holds.1.symm.trans asked.1
      cases this⟩
    exact (rest.framePart hz).idle

/-- A window on which no transition runs, and that goes on showing a source, stays so. -/
theorem frameEnd_idleSource {src : Fin 16} (holds : Holds s o w (.source src)) (idle : s.transition o w = .idle) :
    (frameEnd order s).transition o w = .idle := by
  have parts : IdleSource o w src (afterParts order s) := foldl_keeps (fun s z h => h.framePart z) _ ⟨holds, idle⟩
  exact parts.idle

theorem framePart_frozen (hz : z ≠ .freezes) (h : ((framePart z s).freeze o w).isFrozen = true) : (s.freeze o w).isFrozen = true := by
  by_cases hs : z = .swap
  · subst hs
    rw [framePart, swapPart_freeze, freezeSwapped] at h
    split at h
    · split at h
      · exact h
      · cases h
    · exact h
  · rwa [framePart_freeze ⟨hs, hz⟩] at h

/-- A window that goes on showing a source and is FROZEN at the end, and was not with a transition, is at rest (R84). -/
theorem frameEnd_frozen_idle {src : Fin 16} (holds : Holds s o w (.source src))
    (before : (s.freeze o w).isFrozen = true → s.transition o w = .idle)
    (frozen : ((frameEnd order s).freeze o w).isFrozen = true) : (frameEnd order s).transition o w = .idle := by
  have parts : Holds (afterParts order s) o w (.source src)
      ∧ (((afterParts order s).freeze o w).isFrozen = true → (afterParts order s).transition o w = .idle) := by
    refine foldl_keeps (P := fun t => Holds t o w (.source src) ∧ ((t.freeze o w).isFrozen = true → t.transition o w = .idle))
      (fun s z ⟨holds, idle⟩ => ⟨framePart_holds z holds, fun frozen => ?_⟩) _ ⟨holds, before⟩
    by_cases hz : z = .freezes
    · subst hz
      rcases freezePart_freezeOrTake (o := o) (w := w) s with ⟨hf, ht⟩ | ⟨-, -, -, -, -, -, e⟩
      · rw [framePart, hf] at frozen
        exact ht.trans (idle frozen)
      · exact e
    · exact (IdleSource.framePart z ⟨holds, idle (framePart_frozen hz frozen)⟩).idle
  exact parts.2 frozen

end Sys2Proof.Proofs
end

section
/-! PROOFS. Freezes and pins at an output frame end, in any order of its blocks (R64, R84, R92, R95). -/

namespace Sys2Proof.Proofs

open Sys2Proof.Machine Sys2Proof.Claims Sys2Proof.Safety

variable {s t u : State} {o : Fin 4} {w : Fin 8} {z : FrameEndPart} {order : List FrameEndPart} {i : Fin 8} {j k : Fin 3}
  {tag : Byte} {src : Fin 16}

/-! ### Frames and pins -/

/-- No part of an output frame end changes a slot's frame. -/
theorem framePart_frame (z : FrameEndPart) (s : State) (i : Fin 8) (k : Fin 3) :
    (((framePart z s).store i).slot k).frame = ((s.store i).slot k).frame := by
  by_cases hz : z = .silence
  · subst hz
    rw [framePart, silencePart_store, silenced_slot]
  · exact framed_frame ((framePart_framed hz s).framed i) k

theorem framePart_pins (hz : z ≠ .swap ∧ z ≠ .freezes) (s : State) (i : Fin 8) (k : Fin 3) :
    pinsOf (framePart z s) i k = pinsOf s i k :=
  ((framePart_alters z s) .pins (by revert hz; cases z <;> decide) i k).1

theorem selectStore_pins (i' : Fin 8) (s : State) (i : Fin 8) (k : Fin 3) : pinsOf (selectStore i' s) i k = pinsOf s i k :=
  ((selectStore_alters (l := []) i' s) .pins (by simp) i k).1

theorem takeFreeze_pins (o : Fin 4) (w i' : Fin 8) (j : Fin 3) (shared : Bool) (s : State) (i : Fin 8) (k : Fin 3) :
    pinsOf (takeFreeze o w i' j shared s) i k = pinsOf s i k + (decide (i' = i ∧ j = k)).toNat := by
  rw [pinsOf, takeFreeze, State.setTransition_store, State.setFreeze_store, pinSlot_slot]

/-- A freeze that is taken for another store leaves the pins of store `i`. -/
theorem takeArmed_pins (h : ∀ tag, s.freeze o w ≠ .armed tag i) (k : Fin 3) : pinsOf (takeArmed o w s) i k = pinsOf s i k := by
  cases hf : s.freeze o w with
  | armed tag i' =>
    have hne : i' ≠ i := fun e => h tag (e ▸ hf)
    rcases takeArmed_cases hf with e | ⟨j, shared, e⟩ <;> rw [e]
    · exact selectStore_pins i' s i k
    · rw [takeFreeze_pins, selectStore_pins]
      simp [hne]
  | _ => rw [takeArmed_unarmed (by simp [hf])]

/-- Where no window is ARMED on store `i`, no pin is taken on it. -/
theorem freezePart_pins (h : ∀ o w tag, s.freeze o w ≠ .armed tag i) (k : Fin 3) : pinsOf (freezePart s) i k = pinsOf s i k := by
  have kept : (∀ o w tag, (freezePart s).freeze o w ≠ .armed tag i) ∧ pinsOf (freezePart s) i k = pinsOf s i k := by
    rw [freezePart]
    generalize allWindows = windows
    refine foldl_keeps (P := fun t => (∀ o w tag, t.freeze o w ≠ .armed tag i) ∧ pinsOf t i k = pinsOf s i k)
      (fun t ow before => ?_) windows ⟨h, rfl⟩
    obtain ⟨unarmed, pins⟩ := before
    refine ⟨fun o w tag armed => ?_, ?_⟩
    · rcases takeArmed_freezeOrTake (o := o) (w := w) ow.1 ow.2 t with ⟨same, -⟩ | ⟨_, _, _, _, -, frozen, -⟩
      · exact unarmed o w tag (same.symm.trans armed)
      · rw [frozen] at armed
        cases armed
    · rw [takeArmed_pins (unarmed ow.1 ow.2), pins]
  exact kept.2

/-! ### One window's freeze -/

/-- No other window's record names store `i`. -/
def OnlyNames (o : Fin 4) (w : Fin 8) (i : Fin 8) (s : State) : Prop :=
  ∀ o' w', (o', w') ≠ (o, w) → storeNamed (s.freeze o' w') ≠ some i

theorem OnlyNames.framePart (z : FrameEndPart) (h : OnlyNames o w i s) : OnlyNames o w i (framePart z s) :=
  fun o' w' hne => framePart_unnamed z (h o' w' hne)

/-- A swap unpins a slot once at most, where one window only can be FROZEN on it. -/
theorem OnlyNames.swap_pins (h : OnlyNames o w i s) (k : Fin 3) : pinsOf (swapPart s) i k
    = pinsOf s i k - (released s i k (o, w) && (s.output o).armed).toNat := by
  have other : ∀ ow ∈ allWindows, ow ≠ (o, w) → (released s i k ow && (s.output ow.1).armed) = false := fun ow _ hne => by
    have unrested : restsOn i k (s.freeze ow.1 ow.2) = false :=
      Bool.eq_false_iff.2 fun rests => h ow.1 ow.2 hne (storeNamed_of_restsOn rests)
    rw [released, unrested, Bool.false_and, Bool.false_and]
  have counted := countP_differ allWindows_nodup (mem_allWindows (o, w))
    (p := fun ow => released s i k ow && (s.output ow.1).armed) (q := fun _ => false)
    fun ow hne => other ow (mem_allWindows ow) hne
  rw [List.countP_false] at counted
  rw [swapPart_pins]
  simp only [Bool.toNat_false, Function.const_apply, Nat.add_zero, Nat.zero_add] at counted
  rw [counted]

/-- No window is ARMED on a store that a FROZEN window alone names. -/
theorem OnlyNames.unarmed (h : OnlyNames o w i s) (hf : ∀ tag, s.freeze o w ≠ .armed tag i) :
    ∀ o' w' tag, s.freeze o' w' ≠ .armed tag i := fun o' w' tag armed => by
  by_cases here : (o', w') = (o, w)
  · cases here
    exact hf tag armed
  · exact h o' w' here (by rw [armed, storeNamed])

/-! ### A freeze that a swap releases -/

/-- Window `w`'s output swaps, and the new record does not show the source of store `i`. -/
structure LosesSource (o : Fin 4) (w : Fin 8) (i : Fin 8) (s : State) : Prop where
  armed : (s.output o).armed = true
  lost : ∀ src, (s.store i).binding = some src → pendingContent s o w ≠ some (.source src)

theorem LosesSource.framePart (hz : z ≠ .swap) (h : LosesSource o w i s) : LosesSource o w i (framePart z s) := by
  obtain ⟨-, pending, armed⟩ := framePart_contents hz s o w
  refine ⟨armed.trans h.armed, fun src hb => ?_⟩
  rw [framePart_binding] at hb
  rw [pending]
  exact h.lost src hb

theorem LosesSource.not_kept (h : LosesSource o w i s) : freezeKept s (newRecord s o w) i = false :=
  Bool.eq_false_iff.2 fun kept => by
    obtain ⟨src, hb, hc⟩ := freezeKept_iff.1 kept
    exact h.lost src hb hc

theorem LosesSource.swap (h : LosesSource o w i s) (hn : storeNamed (s.freeze o w) = some i) :
    (swapPart s).freeze o w = .none := by
  rw [swapPart_freeze, if_pos h.armed, freezeSwapped, if_neg]
  intro kept
  have := kept i hn
  rw [h.not_kept] at this
  cases this

theorem framePart_storeNamed_of_ne (hz : z ≠ .swap) (s : State) (o : Fin 4) (w : Fin 8) :
    storeNamed ((framePart z s).freeze o w) = storeNamed (s.freeze o w) := by
  by_cases hf : z = .freezes
  · subst hf
    rw [framePart]
    rcases freezePart_freezeOrTake (o := o) (w := w) s with ⟨same, -⟩ | ⟨tag, i, j, shared, armed, frozen, -⟩
    · rw [same]
    · rw [frozen, armed]
      rfl
  · rw [framePart_freeze ⟨hz, hf⟩]

/-- A record that names a store whose source the new record does not show is released (R95). -/
theorem frameEnd_released (h : LosesSource o w i s) (hn : storeNamed (s.freeze o w) = some i) :
    (frameEnd order s).freeze o w = .none := by
  have parts := afterParts_through (P := fun t => LosesSource o w i t ∧ storeNamed (t.freeze o w) = some i)
    (Q := fun t => t.freeze o w = .none) .swap
    (fun z s hz h => ⟨h.1.framePart hz, (framePart_storeNamed_of_ne hz s o w).trans h.2⟩) (fun s h => h.1.swap h.2)
    (fun z s _ h => framePart_freeze_none z h) order ⟨h, hn⟩
  exact parts

/-- A FROZEN record is as it was, until a swap. -/
theorem framePart_frozen_same {shared : Bool} (hz : z ≠ .swap) (h : s.freeze o w = .frozen i k shared) :
    (framePart z s).freeze o w = .frozen i k shared := by
  by_cases hf : z = .freezes
  · subst hf
    rcases freezePart_freezeOrTake (o := o) (w := w) s with ⟨same, -⟩ | ⟨tag, i, j, shared, armed, -⟩
    · exact same.trans h
    · rw [h] at armed
      cases armed
  · rw [framePart_freeze ⟨hz, hf⟩, h]

/-- A window is FROZEN on a slot that `n` pins are on, and no other record names the store. -/
structure FrozenAlone (o : Fin 4) (w : Fin 8) (i : Fin 8) (k : Fin 3) (shared : Bool) (n : Nat) (s : State) : Prop where
  freeze : s.freeze o w = .frozen i k shared
  alone : OnlyNames o w i s
  pins : pinsOf s i k = n

theorem FrozenAlone.framePart {shared : Bool} {n : Nat} (hz : z ≠ .swap) (h : FrozenAlone o w i k shared n s) :
    FrozenAlone o w i k shared n (framePart z s) := by
  refine ⟨framePart_frozen_same hz h.freeze, h.alone.framePart z, ?_⟩
  by_cases hf : z = .freezes
  · subst hf
    exact (freezePart_pins (h.alone.unarmed (by simp [h.freeze])) k).trans h.pins
  · exact (framePart_pins ⟨hz, hf⟩ s i k).trans h.pins

/-- No record names store `i`, and slot `k` has `n` pins. -/
structure Unnamed (i : Fin 8) (k : Fin 3) (n : Nat) (s : State) : Prop where
  unnamed : ∀ o w, storeNamed (s.freeze o w) ≠ some i
  pins : pinsOf s i k = n

theorem Unnamed.framePart {n : Nat} (hz : z ≠ .swap) (h : Unnamed i k n s) : Unnamed i k n (framePart z s) := by
  refine ⟨fun o w => framePart_unnamed z (h.unnamed o w), ?_⟩
  by_cases hf : z = .freezes
  · subst hf
    exact (freezePart_pins (fun o w tag armed => h.unnamed o w (by rw [armed, storeNamed])) k).trans h.pins
  · exact (framePart_pins ⟨hz, hf⟩ s i k).trans h.pins

/-- The slot of a FROZEN record that is released is unpinned (R95). -/
theorem frameEnd_unpinned {shared : Bool} (h : LosesSource o w i s) (hf : s.freeze o w = .frozen i k shared)
    (alone : OnlyNames o w i s) : pinsOf (frameEnd order s) i k = pinsOf s i k - 1 := by
  have parts := afterParts_through (P := fun t => LosesSource o w i t ∧ FrozenAlone o w i k shared (pinsOf s i k) t)
    (Q := Unnamed i k (pinsOf s i k - 1)) .swap (fun z s hz h => ⟨h.1.framePart hz, h.2.framePart hz⟩)
    (fun t ⟨lost, frozen⟩ => by
      refine ⟨fun o' w' => ?_, ?_⟩
      · by_cases here : (o', w') = (o, w)
        · cases here
          rw [framePart, lost.swap (by rw [frozen.freeze, storeNamed])]
          simp [storeNamed]
        · exact frozen.alone.framePart .swap o' w' here
      · have gone : released t i k (o, w) = true := by
          simp only [released, frozen.freeze, restsOn, lost.not_kept, and_self, decide_true, Bool.not_false, Bool.and_self]
        rw [framePart, frozen.alone.swap_pins, gone, lost.armed, frozen.pins]
        rfl)
    (fun z s hz h => h.framePart hz) order ⟨h, hf, alone, rfl⟩
  exact parts.pins

/-! ### A freeze that is kept -/

/-- The window goes on showing the source of store `i`. -/
structure ShowsStore (o : Fin 4) (w : Fin 8) (i : Fin 8) (src : Fin 16) (s : State) : Prop where
  binding : (s.store i).binding = some src
  holds : Holds s o w (.source src)

theorem ShowsStore.framePart (z : FrameEndPart) (h : ShowsStore o w i src s) : ShowsStore o w i src (framePart z s) :=
  ⟨(framePart_binding z s i).trans h.binding, framePart_holds z h.holds⟩

/-- FZU keeps the window's record at a swap, if its output swaps. -/
theorem ShowsStore.kept (h : ShowsStore o w i src s) (armed : (s.output o).armed = true) :
    freezeKept s (newRecord s o w) i = true :=
  freezeKept_iff.2 ⟨src, h.binding, h.holds.2.resolve_left (by rw [armed]; decide)⟩

theorem ShowsStore.swap (h : ShowsStore o w i src s) (hn : storeNamed (s.freeze o w) = some i) :
    (swapPart s).freeze o w = s.freeze o w := by
  rw [swapPart_freeze]
  split
  · rename_i armed
    rw [freezeSwapped, if_pos]
    intro i' hi'
    obtain rfl : i = i' := Option.some.inj (hn.symm.trans hi')
    exact h.kept armed
  · rfl

/-- A FROZEN window that goes on showing its store's source stays FROZEN (R95). -/
theorem frameEnd_frozen {shared : Bool} (h : ShowsStore o w i src s) (hf : s.freeze o w = .frozen i k shared) :
    (frameEnd order s).freeze o w = .frozen i k shared := by
  have parts : ShowsStore o w i src (afterParts order s) ∧ (afterParts order s).freeze o w = .frozen i k shared := by
    refine foldl_keeps (P := fun t => ShowsStore o w i src t ∧ t.freeze o w = .frozen i k shared)
      (fun t z ⟨shows, frozen⟩ => ⟨shows.framePart z, ?_⟩) _ ⟨h, hf⟩
    by_cases hz : z = .swap
    · subst hz
      exact (shows.swap (by rw [frozen, storeNamed])).trans frozen
    · exact framePart_frozen_same hz frozen
  exact parts.2

/-- Its slot's pins are as they were, where no other record names the store. -/
theorem frameEnd_pinned {shared : Bool} (h : ShowsStore o w i src s) (hf : s.freeze o w = .frozen i k shared)
    (alone : OnlyNames o w i s) : pinsOf (frameEnd order s) i k = pinsOf s i k := by
  have parts : ShowsStore o w i src (afterParts order s) ∧ FrozenAlone o w i k shared (pinsOf s i k) (afterParts order s) := by
    refine foldl_keeps (P := fun t => ShowsStore o w i src t ∧ FrozenAlone o w i k shared (pinsOf s i k) t)
      (fun t z ⟨shows, frozen⟩ => ⟨shows.framePart z, ?_⟩) _ ⟨h, hf, alone, rfl⟩
    by_cases hz : z = .swap
    · subst hz
      refine ⟨(shows.swap (by rw [frozen.freeze, storeNamed])).trans frozen.freeze, frozen.alone.framePart .swap, ?_⟩
      have stays : (released t i k (o, w) && (t.output o).armed) = false := by
        cases armed : (t.output o).armed with
        | false => exact Bool.and_false _
        | true => simp only [released, shows.kept armed, Bool.not_true, Bool.and_false, Bool.false_and]
      rw [Machine.framePart, frozen.alone.swap_pins, stays, frozen.pins]
      rfl
    · exact frozen.framePart hz
  exact parts.2.pins

/-! ### STM's selection, as FZU reads it -/

theorem selectStore_own (bound : (s.store i).binding ≠ none) : (selectStore i s).store i = (s.store i).select := by
  rw [selectStore, if_pos (Option.isSome_iff_ne_none.2 bound), store_setStore]

theorem select_selectedSlot (st : Store) : st.select.selectedSlot = st.newest := by
  cases h : st.newest with
  | none => exact selectedSlot_none fun k => by rw [select_slot, h]; rfl
  | some k =>
    refine selectedSlot_eq (by rw [select_slot, h]; exact decide_eq_true rfl) fun j hj => ?_
    rw [select_slot, h] at hj
    exact (Option.some.inj (of_decide_eq_true hj)).symm

theorem select_pinnedSlot (st : Store) : st.select.pinnedSlot = st.pinnedSlot := by
  simp only [Store.pinnedSlot, select_slot]

/-- What the newest slot of store `i` holds has tag `tag`. -/
def NewestTag (i : Fin 8) (tag : Byte) (s : State) : Prop :=
  ∃ k, (s.store i).newest = some k ∧ (((s.store i).slot k).frame.map FrameInfo.tag) = some tag

theorem newestTag_congr (h : ∀ k, ((t.store i).slot k).frame = ((s.store i).slot k).frame) :
    NewestTag i tag t ↔ NewestTag i tag s := by
  simp only [NewestTag, newest_congr h, h]

/-- An arming whose tag the newest slot does not carry waits (R92). -/
theorem takeArmed_waits (hf : s.freeze o w = .armed tag i) (bound : (s.store i).binding ≠ none) (h : ¬ NewestTag i tag s) :
    takeArmed o w s = selectStore i s := by
  simp only [takeArmed, hf, selectStore_own bound, select_selectedSlot]
  cases newest : (s.store i).newest with
  | none => rfl
  | some k =>
    simp only
    rw [if_neg]
    intro carries
    rw [select_slot] at carries
    exact h ⟨k, newest, carries⟩

theorem takeArmed_frames (o : Fin 4) (w : Fin 8) (s : State) (i : Fin 8) (k : Fin 3) :
    (((takeArmed o w s).store i).slot k).frame = ((s.store i).slot k).frame :=
  framed_frame ((takeArmed_framed o w s).framed i) k

theorem takeArmed_binding (o : Fin 4) (w : Fin 8) (s : State) (i : Fin 8) :
    ((takeArmed o w s).store i).binding = (s.store i).binding :=
  takeArmed_alters o w s .bindings (by decide) i

theorem freezePart_waits (hf : s.freeze o w = .armed tag i) (bound : (s.store i).binding ≠ none) (h : ¬ NewestTag i tag s) :
    (freezePart s).freeze o w = .armed tag i := by
  have kept : (freezePart s).freeze o w = .armed tag i ∧ ((freezePart s).store i).binding ≠ none ∧ ¬ NewestTag i tag (freezePart s) := by
    rw [freezePart]
    generalize allWindows = windows
    refine foldl_keeps (P := fun t => t.freeze o w = .armed tag i ∧ (t.store i).binding ≠ none ∧ ¬ NewestTag i tag t)
      (fun t ow ⟨armed, bound, waits⟩ => ⟨?_, ?_, ?_⟩) windows ⟨hf, bound, h⟩
    · by_cases here : ow.1 = o ∧ ow.2 = w
      · rw [here.1, here.2, takeArmed_waits armed bound waits, selectStore_freeze, armed]
      · rw [(takeArmed_other here t).1, armed]
    · rw [takeArmed_binding]
      exact bound
    · rw [newestTag_congr (takeArmed_frames ow.1 ow.2 t i)]
      exact waits
  exact kept.1

/-- An arming that is kept waits while the newest slot carries another tag (R92, R95). -/
theorem frameEnd_waits (h : ShowsStore o w i src s) (hf : s.freeze o w = .armed tag i) (waits : ¬ NewestTag i tag s) :
    (frameEnd order s).freeze o w = .armed tag i := by
  have parts : ShowsStore o w i src (afterParts order s) ∧ (afterParts order s).freeze o w = .armed tag i
      ∧ ¬ NewestTag i tag (afterParts order s) := by
    refine foldl_keeps (P := fun t => ShowsStore o w i src t ∧ t.freeze o w = .armed tag i ∧ ¬ NewestTag i tag t)
      (fun t z ⟨shows, armed, waits⟩ => ⟨shows.framePart z, ?_, ?_⟩) _ ⟨h, hf, waits⟩
    · by_cases hz : z = .swap
      · subst hz
        exact (shows.swap (by rw [armed, storeNamed])).trans armed
      · by_cases hfz : z = .freezes
        · subst hfz
          exact freezePart_waits armed (by rw [shows.binding]; simp) waits
        · rw [framePart_freeze ⟨hz, hfz⟩, armed]
    · rw [newestTag_congr (framePart_frame z t i)]
      exact waits
  exact parts.2.1

end Sys2Proof.Proofs
end

section
/-! PROOFS. Armed freezes that an output frame end takes, in any order of its blocks: the slot they are taken on, and its pins (R64, R84,
R92, R95). -/

namespace Sys2Proof.Proofs

open Sys2Proof.Machine Sys2Proof.Claims Sys2Proof.Safety

variable {s t u : State} {o : Fin 4} {w : Fin 8} {z : FrameEndPart} {order : List FrameEndPart} {i : Fin 8} {j k : Fin 3}
  {tag : Byte} {src : Fin 16}

/-! ### One armed freeze -/

/-- A freeze armed for `tag` on store `i` finds its tag on the newest slot `k`, and is taken on slot `j`: the one slot that is pinned, or
`k` where none is. -/
structure Target (i : Fin 8) (j k : Fin 3) (tag : Byte) (s : State) : Prop where
  newest : (s.store i).newest = some k
  carries : ((s.store i).slot k).frame.map FrameInfo.tag = some tag
  one : ∀ l, 0 < pinsOf s i l → l = j
  made : pinsOf s i j = 0 → j = k

theorem Target.newestTag (h : Target i j k tag s) {tag' : Byte} (other : NewestTag i tag' s) : tag' = tag := by
  obtain ⟨l, newest, carries⟩ := other
  obtain rfl : k = l := Option.some.inj (h.newest.symm.trans newest)
  exact Option.some.inj (carries.symm.trans h.carries)

/-- Frames that stay, and pins that stay but on slot `j`. -/
theorem Target.congr (h : Target i j k tag s) (frames : ∀ l, ((t.store i).slot l).frame = ((s.store i).slot l).frame)
    (others : ∀ l, l ≠ j → pinsOf t i l = pinsOf s i l) (grows : pinsOf s i j ≤ pinsOf t i j) : Target i j k tag t := by
  refine ⟨(newest_congr frames).trans h.newest, (congrArg _ (frames k)).trans h.carries, fun l pinned => ?_, fun none => h.made (by omega)⟩
  by_contra hl
  exact hl (h.one l (others l hl ▸ pinned))

theorem takeArmed_target (h : Target i j k tag s) (bound : (s.store i).binding ≠ none) (hf : s.freeze o w = .armed tag i) :
    takeArmed o w s = takeFreeze o w i j (decide (j ≠ k)) (selectStore i s) := by
  have carries : ((s.store i).select.slot k).frame.map FrameInfo.tag = some tag := by
    rw [select_slot]
    exact h.carries
  have answer : (s.store i).select.pinAnswer = .made k ∧ j = k ∨ (s.store i).select.pinAnswer = .joined j := by
    rw [Store.pinAnswer, select_pinnedSlot, select_selectedSlot, h.newest]
    by_cases unpinned : pinsOf s i j = 0
    · have none : (s.store i).pinnedSlot = none := pinnedSlot_none.2 fun l => by
        by_contra pinned
        exact pinned (h.one l (Nat.pos_of_ne_zero pinned) ▸ unpinned)
      exact .inl ⟨by rw [none], h.made unpinned⟩
    · exact .inr (by rw [pinnedSlot_eq (Nat.pos_of_ne_zero unpinned) h.one])
  rcases answer with ⟨made, rfl⟩ | joined
  · simp only [takeArmed, hf, selectStore_own bound, select_selectedSlot, h.newest, carries, made, if_true, ne_eq, not_true, decide_false]
  · simp only [takeArmed, hf, selectStore_own bound, select_selectedSlot, h.newest, carries, joined, if_true]

/-- A record that is not ARMED for `tag` on store `i` stays so, and takes no pin of the store. -/
theorem takeArmed_not_target (h : Target i j k tag s) (bound : (s.store i).binding ≠ none) (hf : s.freeze o w ≠ .armed tag i) :
    (∀ l, pinsOf (takeArmed o w s) i l = pinsOf s i l) ∧ (takeArmed o w s).freeze o w ≠ .armed tag i
      ∧ ∀ l, restsOn i l ((takeArmed o w s).freeze o w) = restsOn i l (s.freeze o w) := by
  cases hr : s.freeze o w with
  | armed tag' i' =>
    by_cases here : i' = i
    · subst here
      have waits : ¬ NewestTag i' tag' s := fun carries => hf (by rw [hr, h.newestTag carries])
      rw [takeArmed_waits hr bound waits, selectStore_freeze, hr]
      exact ⟨selectStore_pins i' s i', hr ▸ hf, fun _ => rfl⟩
    · refine ⟨takeArmed_pins fun tag e => ?_, ?_⟩
      · rw [hr] at e
        cases e
        exact here rfl
      · rcases takeArmed_cases hr with e | ⟨l, shared, e⟩ <;> rw [e]
        · rw [selectStore_freeze, hr]
          exact ⟨hr ▸ hf, fun _ => rfl⟩
        · simp [takeFreeze, restsOn, here]
  | _ =>
    rw [takeArmed_unarmed (by simp [hr]), hr]
    exact ⟨fun _ => rfl, hr ▸ hf, fun _ => rfl⟩

/-! ### The armed freezes of one tag and one store, taken together -/

/-- FZU has examined the windows of `done`: those that were ARMED for `tag` on store `i` are FROZEN on slot `j`, each with a pin. -/
structure TakenOf (u : State) (i : Fin 8) (j k : Fin 3) (tag : Byte) (done : List (Fin 4 × Fin 8)) (t : State) : Prop where
  bound : (t.store i).binding ≠ none
  target : Target i j k tag t
  taken : ∀ ow ∈ done, u.freeze ow.1 ow.2 = .armed tag i → t.freeze ow.1 ow.2 = .frozen i j (decide (j ≠ k))
  untaken : ∀ ow ∉ done, t.freeze ow.1 ow.2 = u.freeze ow.1 ow.2
  others : ∀ o w, u.freeze o w ≠ .armed tag i →
    t.freeze o w ≠ .armed tag i ∧ ∀ l, restsOn i l (t.freeze o w) = restsOn i l (u.freeze o w)
  pins : pinsOf t i j = pinsOf u i j + done.countP fun ow => decide (u.freeze ow.1 ow.2 = .armed tag i)

theorem takeFreeze_target (h : Target i j k tag s) (o : Fin 4) (w : Fin 8) (shared : Bool) :
    Target i j k tag (takeFreeze o w i j shared (selectStore i s)) := by
  refine h.congr (fun l => ?_) (fun l hl => ?_) ?_
  · rw [takeFreeze, State.setTransition_store, State.setFreeze_store, pinSlot_slot]
    exact framed_frame ((selectStore_framed i s).framed i) l
  · rw [takeFreeze_pins, selectStore_pins]
    simp [Ne.symm hl]
  · rw [takeFreeze_pins, selectStore_pins]
    omega

theorem TakenOf.step {done : List (Fin 4 × Fin 8)} (hne : (o, w) ∉ done) (h : TakenOf u i j k tag done t) :
    TakenOf u i j k tag (done ++ [(o, w)]) (takeArmed o w t) := by
  have here : t.freeze o w = u.freeze o w := h.untaken (o, w) hne
  have elsewhere : ∀ ow : Fin 4 × Fin 8, ow ≠ (o, w) → (takeArmed o w t).freeze ow.1 ow.2 = t.freeze ow.1 ow.2 := fun ow hw =>
    (takeArmed_other (fun e => hw (Prod.ext e.1.symm e.2.symm)) t).1
  have untaken : ∀ ow ∉ done ++ [(o, w)], (takeArmed o w t).freeze ow.1 ow.2 = u.freeze ow.1 ow.2 := fun ow hw => by
    simp only [List.mem_append, List.mem_singleton, not_or] at hw
    rw [elsewhere ow hw.2, h.untaken ow hw.1]
  have bound : ((takeArmed o w t).store i).binding ≠ none := by
    rw [takeArmed_binding]
    exact h.bound
  by_cases armed : u.freeze o w = .armed tag i
  · have taken := takeArmed_target h.target h.bound (here.trans armed)
    refine ⟨bound, taken ▸ takeFreeze_target h.target o w _, fun ow hw ha => ?_, untaken, fun o' w' hn => ?_, ?_⟩
    · by_cases same : ow = (o, w)
      · rw [same, taken]
        simp [takeFreeze]
      · rw [elsewhere ow same]
        exact h.taken ow ((List.mem_append.1 hw).resolve_right (by simpa using same)) ha
    · have away : (o', w') ≠ (o, w) := fun e => by
        cases e
        exact hn armed
      rw [elsewhere (o', w') away]
      exact h.others o' w' hn
    · rw [taken, takeFreeze_pins, selectStore_pins, h.pins, List.countP_append]
      simp [armed, Nat.add_assoc]
  · obtain ⟨pins, unarmed, rests⟩ := takeArmed_not_target h.target h.bound (here ▸ armed)
    refine ⟨bound, h.target.congr (takeArmed_frames o w t i) (fun l _ => pins l) (pins j).ge, fun ow hw ha => ?_, untaken,
      fun o' w' hn => ?_, ?_⟩
    · have away : ow ≠ (o, w) := fun e => by
        cases e
        exact armed ha
      rw [elsewhere ow away]
      exact h.taken ow ((List.mem_append.1 hw).resolve_right (by simpa using away)) ha
    · by_cases same : (o', w') = (o, w)
      · cases same
        exact ⟨unarmed, fun l => by rw [rests, here]⟩
      · rw [elsewhere (o', w') same]
        exact h.others o' w' hn
    · rw [pins, h.pins, List.countP_append]
      simp [armed]

/-- The freezes part takes every freeze armed for `tag` on store `i` on the one slot, the later ones joining the pin (R92). -/
theorem freezePart_taken (h : Target i j k tag u) (bound : (u.store i).binding ≠ none) :
    TakenOf u i j k tag allWindows (freezePart u) :=
  foldl_induct_once (fun _ _ _ hne h => h.step hne) allWindows_nodup
    ⟨bound, h, fun _ hw => absurd hw List.not_mem_nil, fun _ _ => rfl, fun _ _ hn => ⟨hn, fun _ => rfl⟩, rfl⟩

/-! ### The parts together -/

/-- Window `ow` is ARMED for `tag` on store `i`. -/
def armedFor (s : State) (i : Fin 8) (tag : Byte) (ow : Fin 4 × Fin 8) : Bool := decide (s.freeze ow.1 ow.2 = .armed tag i)

/-- A record of window `ow` that names a store of source `src` stands: the swaps are still to come, or they keep it. -/
def stands (s : State) (src : Fin 16) (swapped : Bool) (ow : Fin 4 × Fin 8) : Bool :=
  !swapped || decide (KeepsFreeze s ow.1 ow.2 src)

theorem takenAt_eq (s : State) (i : Fin 8) (src : Fin 16) (tag : Byte) :
    takenAt s i src tag = allWindows.countP fun ow => armedFor s i tag ow && stands s src true ow := by
  simp only [takenAt, armedFor, stands, Bool.not_true, Bool.false_or, Bool.decide_and]

/-- What stands at an output frame end of the windows ARMED for `tag` on store `i`, from state `s`: whether the outputs have swapped, and
whether the armed freezes have been taken, on slot `j`. -/
structure Freezing (s : State) (i : Fin 8) (src : Fin 16) (tag : Byte) (j k : Fin 3) (swapped taken : Bool) (t : State) : Prop where
  binding : (t.store i).binding = some src
  keeps : swapped = false → ∀ o w, KeepsFreeze t o w src ↔ KeepsFreeze s o w src
  target : taken = false → Target i j k tag t
  armed : ∀ o w, s.freeze o w = .armed tag i → t.freeze o w
    = if stands s src swapped (o, w) then (if taken then .frozen i j (decide (j ≠ k)) else .armed tag i) else .none
  others : ∀ o w, s.freeze o w ≠ .armed tag i →
    t.freeze o w ≠ .armed tag i ∧ ∀ l, restsOn i l (t.freeze o w) = true → KeepsFreeze s o w src
  pins : pinsOf t i j = pinsOf s i j
    + if taken then allWindows.countP fun ow => armedFor s i tag ow && stands s src swapped ow else 0

section
variable {swapped taken : Bool}

theorem keepsFreeze_congr (hz : z ≠ .swap) (s : State) (o : Fin 4) (w : Fin 8) (src : Fin 16) :
    KeepsFreeze (framePart z s) o w src ↔ KeepsFreeze s o w src := by
  obtain ⟨-, pending, armed⟩ := framePart_contents hz s o w
  rw [KeepsFreeze, armed, pending]

theorem Freezing.other (hz : z ≠ .swap ∧ z ≠ .freezes) (h : Freezing s i src tag j k swapped taken t) :
    Freezing s i src tag j k swapped taken (framePart z t) := by
  have pins := framePart_pins hz t i
  refine ⟨(framePart_binding z t i).trans h.binding, fun hs o w => (keepsFreeze_congr hz.1 t o w src).trans (h.keeps hs o w),
    fun ht => (h.target ht).congr (framePart_frame z t i) (fun l _ => pins l) (pins j).ge, fun o w ha => ?_, fun o w hn => ?_,
    (pins j).trans h.pins⟩
  · rw [framePart_freeze hz]
    exact h.armed o w ha
  · rw [framePart_freeze hz]
    exact h.others o w hn

theorem Freezing.armed_iff (h : Freezing s i src tag j k swapped false t) (ow : Fin 4 × Fin 8) :
    t.freeze ow.1 ow.2 = .armed tag i ↔ (armedFor s i tag ow && stands s src swapped ow) = true := by
  by_cases ha : s.freeze ow.1 ow.2 = .armed tag i
  · rw [h.armed ow.1 ow.2 ha]
    cases hs : stands s src swapped ow <;> simp [armedFor, ha]
  · simp [armedFor, ha, (h.others ow.1 ow.2 ha).1]

theorem Freezing.freezes (h : Freezing s i src tag j k swapped false t) :
    Freezing s i src tag j k swapped true (framePart .freezes t) := by
  have all := freezePart_taken (h.target rfl) (by rw [h.binding]; exact Option.some_ne_none _)
  refine ⟨(framePart_binding .freezes t i).trans h.binding,
    fun hs o w => (keepsFreeze_congr (by decide) t o w src).trans (h.keeps hs o w), nofun, fun o w ha => ?_, fun o w hn => ?_, ?_⟩
  · have before := h.armed o w ha
    split at before <;> rename_i st
    · rw [if_pos st]
      exact all.taken (o, w) (mem_allWindows _) before
    · rw [if_neg st]
      exact framePart_freeze_none .freezes before
  · obtain ⟨unarmed, rests⟩ := h.others o w hn
    obtain ⟨stays, same⟩ := all.others o w unarmed
    exact ⟨stays, fun l hl => rests l (same l ▸ hl)⟩
  · have before := h.pins
    have counted := List.countP_congr (l := allWindows) (p := fun ow => decide (t.freeze ow.1 ow.2 = .armed tag i))
      (q := fun ow => armedFor s i tag ow && stands s src swapped ow)
      fun ow _ => decide_eq_true_iff.trans (h.armed_iff ow)
    rw [framePart, all.pins, before, counted]
    rfl

/-- FZU keeps a record that names store `i`, bound to `src`, where the new record shows `src` (R95). -/
theorem freezeKept_pending (hb : (s.store i).binding = some src) (o : Fin 4) (w : Fin 8) :
    freezeKept s (newRecord s o w) i = true ↔ pendingContent s o w = some (.source src) := by
  rw [freezeKept_iff]
  constructor
  · rintro ⟨src', hb', hc⟩
    rw [Option.some.inj (hb.symm.trans hb')]
    exact hc
  · exact fun hc => ⟨src, hb, hc⟩

/-- A swap keeps a record that names store `i`, bound to `src`, or releases it (R95). -/
theorem swapPart_named (hb : (s.store i).binding = some src) (hn : storeNamed (s.freeze o w) = some i) :
    (swapPart s).freeze o w = if KeepsFreeze s o w src then s.freeze o w else .none := by
  rw [swapPart_freeze]
  by_cases armed : (s.output o).armed = true <;> simp [KeepsFreeze, freezeSwapped, armed, hn, freezeKept_pending hb]

theorem swapPart_freeze_or (s : State) (o : Fin 4) (w : Fin 8) :
    (swapPart s).freeze o w = s.freeze o w ∨ (swapPart s).freeze o w = .none := by
  rw [swapPart_freeze, freezeSwapped]
  split
  · exact ite_eq_or_eq _ _ _
  · exact .inl rfl

/-- The FROZEN records that a swap releases (R95). -/
theorem released_iff (hb : (s.store i).binding = some src) (l : Fin 3) (ow : Fin 4 × Fin 8) :
    (released s i l ow && (s.output ow.1).armed) = true
      ↔ restsOn i l (s.freeze ow.1 ow.2) = true ∧ ¬ KeepsFreeze s ow.1 ow.2 src := by
  simp only [released, KeepsFreeze, Bool.and_eq_true, Bool.not_eq_true', Bool.eq_false_iff, ne_eq, freezeKept_pending hb, not_or,
    not_not, and_assoc, and_comm (a := (s.output ow.1).armed = true)]

/-- Of the windows that the swaps release, those whose armed freeze has been taken are FROZEN on slot `j`. -/
theorem Freezing.released_iff (h : Freezing s i src tag j k false taken t) (l : Fin 3) (ow : Fin 4 × Fin 8) :
    (released t i l ow && (t.output ow.1).armed) = true
      ↔ taken = true ∧ l = j ∧ (armedFor s i tag ow && !stands s src true ow) = true := by
  rw [Proofs.released_iff h.binding, h.keeps rfl]
  by_cases ha : s.freeze ow.1 ow.2 = .armed tag i
  · rw [h.armed ow.1 ow.2 ha]
    cases taken <;> simp [stands, armedFor, ha, restsOn, eq_comm (a := j)]
  · have kept := (h.others ow.1 ow.2 ha).2 l
    simp only [armedFor, ha, decide_false, Bool.false_and, Bool.false_eq_true, and_false, iff_false]
    exact fun both => both.2 (kept both.1)

theorem countP_and_not {α : Type} (xs : List α) (p q : α → Bool) :
    xs.countP p - xs.countP (fun x => p x && !q x) = xs.countP fun x => p x && q x := by
  have split := List.countP_eq_countP_filter_add xs p q
  rw [List.countP_filter, List.countP_filter] at split
  omega

theorem Freezing.swap_pins (h : Freezing s i src tag j k false taken t) (l : Fin 3) : pinsOf (swapPart t) i l = pinsOf t i l
    - if taken = true ∧ l = j then allWindows.countP fun ow => armedFor s i tag ow && !stands s src true ow else 0 := by
  rw [swapPart_pins]
  split
  · rename_i gone
    rw [List.countP_congr fun ow _ => (h.released_iff l ow).trans ⟨fun e => e.2.2, fun e => ⟨gone.1, gone.2, e⟩⟩]
  · rename_i stay
    rw [List.countP_eq_zero.2 fun ow _ e => stay ⟨((h.released_iff l ow).1 e).1, ((h.released_iff l ow).1 e).2.1⟩]

theorem Freezing.swap (h : Freezing s i src tag j k false taken t) :
    Freezing s i src tag j k true taken (framePart .swap t) := by
  refine ⟨(framePart_binding .swap t i).trans h.binding, nofun, fun ht => ?_, fun o w ha => ?_, fun o w hn => ?_, ?_⟩
  · have pins : ∀ l, pinsOf (framePart .swap t) i l = pinsOf t i l := fun l => by
      rw [framePart, h.swap_pins, ht]
      rfl
    exact (h.target ht).congr (framePart_frame .swap t i) (fun l _ => pins l) (pins j).ge
  · have before := h.armed o w ha
    rw [stands, Bool.not_false, Bool.true_or, if_pos rfl] at before
    have named : storeNamed (t.freeze o w) = some i := by
      rw [before]
      cases taken <;> rfl
    rw [framePart, swapPart_named h.binding named, before]
    simp only [h.keeps rfl o w, stands, Bool.not_true, Bool.false_or, decide_eq_true_eq]
  · obtain ⟨unarmed, rests⟩ := h.others o w hn
    rcases swapPart_freeze_or t o w with e | e <;> rw [framePart, e]
    · exact ⟨unarmed, rests⟩
    · exact ⟨nofun, nofun⟩
  · have yet : (fun ow => armedFor s i tag ow && stands s src false ow) = armedFor s i tag := funext fun ow => Bool.and_true _
    rw [framePart, h.swap_pins, h.pins, yet]
    cases taken with
    | false => rfl
    | true =>
      have split := countP_and_not allWindows (armedFor s i tag) (stands s src true)
      have fewer : allWindows.countP (fun ow => armedFor s i tag ow && !stands s src true ow) ≤ allWindows.countP (armedFor s i tag) :=
        List.countP_mono_left fun ow _ e => (Bool.and_eq_true_iff.1 e).1
      simp only [and_self, if_true]
      omega

/-- One more part, of those not yet taken. -/
theorem Freezing.part {done : List FrameEndPart} (hz : z ∉ done)
    (h : Freezing s i src tag j k (decide (.swap ∈ done)) (decide (.freezes ∈ done)) t) :
    Freezing s i src tag j k (decide (.swap ∈ done ++ [z])) (decide (.freezes ∈ done ++ [z])) (framePart z t) := by
  by_cases hs : z = .swap
  · subst hs
    rw [decide_eq_false hz] at h
    simpa using h.swap
  · by_cases hf : z = .freezes
    · subst hf
      rw [decide_eq_false hz] at h
      simpa using h.freezes
    · simpa [Ne.symm hs, Ne.symm hf] using h.other ⟨hs, hf⟩

end

theorem isFrozen_of_restsOn {f : FreezeRecord} (h : restsOn i k f = true) : f.isFrozen = true := by
  cases f with
  | frozen => rfl
  | _ => cases h

/-- The armed freezes for `tag` on store `i` whose windows' records are kept are taken together on slot `j` (R84, R92, R95). -/
theorem frameEnd_taken (hb : (s.store i).binding = some src) (target : Target i j k tag s)
    (keeps : ∀ o w, storeNamed (s.freeze o w) = some i → (s.freeze o w).isFrozen = true → KeepsFreeze s o w src) :
    Freezing s i src tag j k true true (afterParts order s) := by
  have start : Freezing s i src tag j k false false s :=
    ⟨hb, fun _ _ _ => Iff.rfl, fun _ => target, fun _ _ ha => ha, fun o w hn => ⟨hn, fun l rests =>
      keeps o w (storeNamed_of_restsOn rests) (isFrozen_of_restsOn rests)⟩, rfl⟩
  have parts := afterParts_induct
    (Inv := fun done t => Freezing s i src tag j k (decide (.swap ∈ done)) (decide (.freezes ∈ done)) t)
    (fun done z t hz h => h.part hz) order (by simpa using start)
  simpa [mem_completeOrder] using parts

/-- A window whose freeze is ARMED, and that goes on showing the source of its store, is FROZEN on the slot of the pin, its transition
IDLE (R84, R92). -/
theorem frameEnd_takes (hf : s.freeze o w = .armed tag i) (hb : (s.store i).binding = some src) (holds : Holds s o w (.source src))
    (target : Target i j k tag s)
    (keeps : ∀ o w, storeNamed (s.freeze o w) = some i → (s.freeze o w).isFrozen = true → KeepsFreeze s o w src) :
    (frameEnd order s).freeze o w = .frozen i j (decide (j ≠ k))
      ∧ pinsOf (frameEnd order s) i j = pinsOf s i j + takenAt s i src tag ∧ (frameEnd order s).transition o w = .idle := by
  have parts := frameEnd_taken (order := order) hb target keeps
  have kept : stands s src true (o, w) = true := decide_eq_true holds.2
  have frozen : (frameEnd order s).freeze o w = .frozen i j (decide (j ≠ k)) := by
    have after := parts.armed o w hf
    rwa [kept, if_pos rfl, if_pos rfl] at after
  refine ⟨frozen, ?_, frameEnd_frozen_idle holds (fun before => ?_) (by rw [frozen]; rfl)⟩
  · have after := parts.pins
    rwa [if_pos rfl, ← takenAt_eq] at after
  · rw [hf] at before
    cases before

end Sys2Proof.Proofs
end

section
/-! PROOFS. Transitions and freezes at an output frame end (R78, R79, R81, R82, R84, R92, R95). -/

namespace Sys2Proof.Proofs

open Sys2Proof.Machine Sys2Proof.Claims Sys2Proof.Safety

variable {s : State} {o : Fin 4} {w : Fin 8} {i : Fin 8} {j k : Fin 3} {tag : Byte}

theorem pendingContent_lacks (h : Lacks (s.output o).pending w) : pendingContent s o w = none := by
  rw [pendingContent, findWindow_none.2 h, Option.map_none]

theorem newestTag_iff (legal : StoreLegal (s.store i)) :
    NewestTag i tag s ↔ ∃ k f, NewestComplete (s.store i) k ∧ ((s.store i).slot k).frame = some f ∧ f.tag = tag := by
  simp only [NewestTag, (storeLegal_iff.1 legal).newest_iff, Option.map_eq_some_iff, exists_and_left]

/-- The slot on which an armed freeze is taken: the newest, where no slot is pinned. -/
theorem Target.of_unpinned {f : FrameInfo} (legal : StoreLegal (s.store i)) (newest : NewestComplete (s.store i) k)
    (frame : ((s.store i).slot k).frame = some f) (carries : f.tag = tag) (unpinned : Unpinned (s.store i)) : Target i k k tag s :=
  ⟨(storeLegal_iff.1 legal).newest_iff.2 newest, by rw [frame, Option.map_some, carries],
    fun l pinned => absurd (unpinned l) (Nat.ne_of_gt pinned), fun _ => rfl⟩

/-- The slot on which an armed freeze is taken: the pinned one. -/
theorem Target.of_pinned {f : FrameInfo} (legal : StoreLegal (s.store i)) (newest : NewestComplete (s.store i) k)
    (frame : ((s.store i).slot k).frame = some f) (carries : f.tag = tag) (pinned : 0 < pinsOf s i j)
    (one : ∀ l, 0 < pinsOf s i l → l = j) : Target i j k tag s :=
  ⟨(storeLegal_iff.1 legal).newest_iff.2 newest, by rw [frame, Option.map_some, carries], one,
    fun none => absurd none (Nat.ne_of_gt pinned)⟩

/-- Settles O49, clause by clause: what becomes of a window's transition and freeze follows them through the parts of the output frame end,
whatever their order. -/
theorem frameEndTakesTransitionsAndFreezes : Obligations.FrameEndTakesTransitionsAndFreezes := by
  intro order s running legal
  refine ⟨frameEnd order s, congrArg _ (if_pos running), fun o w => ⟨?_, ?_, ?_, ?_, ?_, ?_, ?_⟩⟩
  · intro none unmarked noStart
    constructor
    · intro unarmed idle
      rw [frameEnd_advances none noStart (.inl unarmed), if_neg unmarked, idle]
      rfl
    · intro x hx stays
      have belongs : BelongsTo (Transition.owner x) (s.transition o w) := fun y hy => by
        cases hx.symm.trans hy
        rfl
      rw [frameEnd_advances none noStart (stays.imp_right fun holds => ⟨_, holds, belongs⟩), if_neg unmarked, hx, advanceRecord_running]
  · intro none marked noStart unarmed
    rw [frameEnd_advances none noStart (.inl unarmed), if_pos marked]
  · exact fun armed lacks => frameEnd_dropped armed (pendingContent_lacks lacks)
  · exact fun armed other runs => frameEnd_rebound armed other runs
  · exact fun i named armed lost => ⟨frameEnd_released ⟨armed, lost⟩ named, fun k shared frozen alone =>
      frameEnd_unpinned ⟨armed, lost⟩ frozen alone⟩
  · exact fun i k shared src frozen bound holds => ⟨frameEnd_frozen ⟨bound, holds⟩ frozen, frameEnd_idleSource holds,
      frameEnd_pinned ⟨bound, holds⟩ frozen⟩
  · intro tag i src armed bound holds
    refine ⟨fun waits => ?_, fun k f newest frame carries => ⟨fun unpinned alone => ?_, fun j pinned one keeps => ?_⟩⟩
    · refine frameEnd_waits ⟨bound, holds⟩ armed fun taken => ?_
      obtain ⟨k, f, newest, frame, carries⟩ := (newestTag_iff (legal i)).1 taken
      exact waits k f newest frame carries
    · obtain ⟨frozen, pins, idle⟩ := frameEnd_takes (order := order) armed bound holds
        (.of_unpinned (legal i) newest frame carries unpinned) fun o' w' named before => by
          rw [alone o' w' named] at before
          cases before
      have none : pinsOf s i k = 0 := unpinned k
      rw [none, Nat.zero_add] at pins
      exact ⟨by simpa using frozen, pins, idle⟩
    · exact frameEnd_takes armed bound holds (.of_pinned (legal i) newest frame carries pinned one) keeps

end Sys2Proof.Proofs
end

section
/-! PROOFS. FREEZE of both kinds (spec 5): its checks in the order of R89, and the arming of FREEZE AT (R91). -/

namespace Sys2Proof.Proofs

open Sys2Proof.Machine Sys2Proof.Claims Sys2Proof.Safety

variable {s : State} {q : ReqHead} {ob wb kb tag : Byte} {o : Fin 4} {w : Fin 8} {r : WindowRecord} {src : Fin 16} {kindOk : Bool}
  {act : Fin 4 → Fin 8 → Fin 8 → Answer}

/-! ### The checks of R89 -/

theorem freezeChecked_badKind : freezeChecked false ob wb s act = refuse s .range := by
  unfold freezeChecked
  split
  · contradiction
  · rfl

theorem freezeChecked_range (h : 4 ≤ ob.toNat ∨ 8 ≤ wb.toNat) : freezeChecked kindOk ob wb s act = refuse s .range := by
  unfold freezeChecked
  rcases h with h | h <;> rw [readIndex_none h]
  cases readIndex 4 ob <;> rfl

theorem freezeChecked_noWindow (ho : Names ob o) (hw : Names wb w) (hr : s.activeWindow o w = none) :
    freezeChecked true ob wb s act = refuse s .absent := by
  simp only [freezeChecked, readIndex_of ho, readIndex_of hw, hr, Option.map_none]

theorem freezeChecked_noSource (ho : Names ob o) (hw : Names wb w) (hr : s.activeWindow o w = some r)
    (other : ∀ src, r.content ≠ .source src) : freezeChecked true ob wb s act = refuse s .range := by
  cases hc : r.content with
  | source src => exact absurd hc (other src)
  | _ => simp only [freezeChecked, readIndex_of ho, readIndex_of hw, hr, Option.map_some, hc]

theorem freezeChecked_noStore (ho : Names ob o) (hw : Names wb w) (hr : s.activeWindow o w = some r)
    (hc : r.content = .source src) (unbound : Unbound s src) : freezeChecked true ob wb s act = refuse s .absent := by
  simp only [freezeChecked, readIndex_of ho, readIndex_of hw, hr, Option.map_some, hc, storeOf_unbound unbound]

/-! ### Both kinds -/

/-- A kind byte that names neither kind is refused (R89). -/
theorem freezeNowAnswer_badKind (h : 2 ≤ kb.toNat) : freezeNowAnswer ob wb kb s = refuse s .range := by
  rw [freezeNowAnswer, decide_eq_false (by omega), freezeChecked_badKind]

theorem freezeNowAnswer_now (h : kb.toNat = 0) : freezeNowAnswer ob wb kb s = freezeChecked true ob wb s (freezeNowOn s) := by
  rw [freezeNowAnswer, decide_eq_true h]

/-- What R89's checks refuse, they refuse whatever the kind of the FREEZE would do. -/
theorem bothFreezes_refused {rc : ReplyCode} (hears : Hears q s)
    (refused : ∀ act, freezeChecked true ob wb s.goodCell act = refuse s.goodCell rc) :
    exec (.freezeAt q ob wb tag) s = .next (replied q 18 rc [] s)
      ∧ (kb.toNat = 0 → exec (.freezeNow q ob wb kb) s = .next (replied q 18 rc [] s)) :=
  ⟨onRequest_refused hears (refused _), fun now => onRequest_refused hears ((freezeNowAnswer_now now).trans (refused _))⟩

/-! ### FREEZE AT -/

/-- A FREEZE AT that passes its checks arms a window that is not FROZEN (R91). -/
theorem freezeAtAnswer_armed {i : Fin 8} (ho : Names ob o) (hw : Names wb w) (hr : s.activeWindow o w = some r)
    (hc : r.content = .source src) (hi : BoundAt s src i) (unfrozen : ∀ j k shared, s.freeze o w ≠ .frozen j k shared) :
    freezeAtAnswer ob wb tag s = ⟨s.setFreeze o w (.armed tag i), .armed, [], none⟩ :=
  freezeChecked_of ho hw hr hc hi unfrozen

/-- A FREEZE AT of a FROZEN window reports its slot and changes nothing (R89). -/
theorem freezeAtAnswer_frozen {i j : Fin 8} {k : Fin 3} {shared : Bool} {f : FrameInfo} (ho : Names ob o) (hw : Names wb w)
    (hr : s.activeWindow o w = some r) (hc : r.content = .source src) (hi : BoundAt s src i)
    (frozen : s.freeze o w = .frozen j k shared) (frame : ((s.store j).slot k).frame = some f) : freezeAtAnswer ob wb tag s
      = ⟨s, .done, [BitVec.ofNat 8 j.val, BitVec.ofNat 8 k.val, f.tag, BitVec.ofNat 8 ((s.store j).slot k).pins], none⟩ := by
  rw [freezeAtAnswer, freezeChecked_frozen ho hw hr hc hi frozen, freezeResult_eq frame]

/-- Settles O24: the checks in their order, the same for both kinds, then the arming and the report of FREEZE AT. -/
theorem freezeAtArmsAndFreezesCheck : Obligations.FreezeAtArmsAndFreezesCheck := by
  intro q ob wb kb tag s hears
  refine ⟨fun badKind => onRequest_refused hears (freezeNowAnswer_badKind badKind),
    fun h => bothFreezes_refused hears fun _ => freezeChecked_range h,
    fun o w ho hw => ⟨fun absent => ?_, fun r hr => ⟨fun other => ?_, fun src hc => ⟨fun unbound => ?_, fun i hi => ⟨?_, ?_⟩⟩⟩⟩⟩
  · exact bothFreezes_refused hears fun _ => freezeChecked_noWindow (s := s.goodCell) ho hw absent
  · exact bothFreezes_refused hears fun _ => freezeChecked_noSource (s := s.goodCell) ho hw hr other
  · exact bothFreezes_refused hears fun _ => freezeChecked_noStore (s := s.goodCell) ho hw hr hc unbound
  · exact fun unfrozen => onRequest_hears hears (freezeAtAnswer_armed (s := s.goodCell) ho hw hr hc hi unfrozen)
  · exact fun j k shared f frozen frame =>
      onRequest_hears hears (freezeAtAnswer_frozen (s := s.goodCell) ho hw hr hc hi frozen frame)

end Sys2Proof.Proofs
end

section
/-! PROOFS. ROTSET (spec 6): the reading of the list it carries (R104), and what it answers (R105). -/

namespace Sys2Proof.Proofs

open Sys2Proof.Machine Sys2Proof.Claims Sys2Proof.Safety

variable {lb count yb db : Byte} {entries : List Byte} {dwell : Half} {r : Fin 4} {srcs : List (Fin 16)} {style : Style}

/-! ### The list that is read -/

theorem readRange_none {lo hi v : Nat} (h : v < lo ∨ hi < v) : readRange lo hi v = none := if_neg (by omega)

/-- The bytes of a list of sources read as that list. -/
theorem readSources_map (srcs : List (Fin 16)) : readSources (srcs.map fun src => BitVec.ofNat 8 src.val) = some srcs := by
  induction srcs with
  | nil => rfl
  | cons src rest ih =>
    have head : (BitVec.ofNat 8 src.val).toNat = src.val := Nat.mod_eq_of_lt (by omega)
    simp only [List.map_cons, readSources, readIndex_of head, ih, Option.bind_eq_bind, Option.bind_some]

/-- One byte that names no source, and the whole list has no reading. -/
theorem readSources_none {bytes : List Byte} (h : ∃ b ∈ bytes, 16 ≤ b.toNat) : readSources bytes = none := by
  induction bytes with
  | nil => simp at h
  | cons x rest ih =>
    obtain ⟨b, mem, bad⟩ := h
    rcases List.mem_cons.1 mem with rfl | later
    · simp only [readSources, readIndex_none bad, Option.bind_eq_bind, Option.bind_none]
    · simp only [readSources, ih ⟨b, later, bad⟩, Option.bind_eq_bind, Option.bind_none, Option.bind_fun_none]

/-- The eight entry bytes of the cell are read as they stand (§11.4). -/
theorem padTo_eight (h : entries.length = 8) : padTo 8 entries = entries := by
  simp [padTo, h]

/-- A count out of 1..8, an entry read that names no source, and an unknown style: such a list is not read (R104). -/
theorem readStagedList_none (len : entries.length = 8)
    (h : count.toNat = 0 ∨ 9 ≤ count.toNat ∨ (∃ b ∈ entries.take count.toNat, 16 ≤ b.toNat) ∨ 3 ≤ yb.toNat) :
    readStagedList count entries dwell yb db = none := by
  by_cases counted : 1 ≤ count.toNat ∧ count.toNat ≤ 8
  · have read : readRange 1 8 count.toNat = some count.toNat := readRange_eq_some.2 ⟨counted, rfl⟩
    simp only [readStagedList, read, padTo_eight len, Option.bind_eq_bind, Option.bind_some]
    rcases h with zero | many | bad | bad
    · omega
    · omega
    · rw [readSources_none bad, Option.bind_none]
    · simp only [readStyle_none bad, Option.bind_none, Option.bind_fun_none]
  · rw [readStagedList, readRange_none (by omega)]
    rfl

/-- A dwell of 0 is taken as 1 (R104). -/
theorem dwellTaken_eq (n : Nat) : max n 1 = if n = 0 then 1 else n := by
  split <;> omega

theorem readStagedList_of (len : entries.length = 8) (lo : 1 ≤ count.toNat) (hi : count.toNat ≤ 8)
    (named : entries.take count.toNat = srcs.map fun src => BitVec.ofNat 8 src.val) (hy : StyleAs yb style) :
    readStagedList count entries dwell yb db
      = some ⟨srcs, if dwell.toNat = 0 then 1 else dwell.toNat, style, db.toNat⟩ := by
  have read : readRange 1 8 count.toNat = some count.toNat := readRange_eq_some.2 ⟨⟨lo, hi⟩, rfl⟩
  simp only [readStagedList, read, padTo_eight len, named, readSources_map, readStyle_of hy, dwellTaken_eq, Option.bind_eq_bind,
    Option.bind_some]

/-! ### The answer -/

theorem rotsetAnswer_badList (h : 4 ≤ lb.toNat) (s : State) : rotsetAnswer lb count entries dwell yb db s = refuse s .range := by
  rw [rotsetAnswer, readIndex_none h]

theorem rotsetAnswer_unread (h : readStagedList count entries dwell yb db = none) (s : State) :
    rotsetAnswer lb count entries dwell yb db s = refuse s .range := by
  rw [rotsetAnswer, h]
  cases readIndex 4 lb <;> rfl

/-- The result tells of the list as it stood, and of the dwell that is staged (R105, §11.6). -/
theorem rotsetResult_eq (l : RotationList) (st : StagedList) : rotsetResult l st
    = [if l.staged = none then 0#8 else 1#8, if l.entries = [] then 255#8 else BitVec.ofNat 8 l.position]
      ++ natHalf l.counter ++ natHalf st.dwell := by
  cases h : l.staged <;> simp [rotsetResult, flagByte, byteOf, h]

/-- A list that is read is staged whole (R105). -/
theorem rotsetAnswer_staged {st : StagedList} (hr : Names lb r) (read : readStagedList count entries dwell yb db = some st)
    (s : State) : rotsetAnswer lb count entries dwell yb db s
      = ⟨s.setList r { s.list r with staged := some st }, .armed,
          [if (s.list r).staged = none then 0#8 else 1#8,
            if (s.list r).entries = [] then 255#8 else BitVec.ofNat 8 (s.list r).position]
            ++ natHalf (s.list r).counter ++ natHalf st.dwell, none⟩ := by
  rw [rotsetAnswer, readIndex_of hr, read, ← rotsetResult_eq]

/-- Settles O26: every fault leaves a number or the list unread, and a list that is read is staged. -/
theorem rotsetStagesTheList : Obligations.RotsetStagesTheList := by
  intro q lb count entries dwell yb db s len
  refine ⟨fun fault => ?_, fun r srcs style hr lo hi named hy d hd => ?_⟩
  · have refused : rotsetAnswer lb count entries dwell yb db s.goodCell = refuse s.goodCell .range := by
      rcases fault with badList | unread
      · exact rotsetAnswer_badList badList _
      · exact rotsetAnswer_unread (readStagedList_none len unread) _
    exact ⟨fun hears => onEither_refused hears refused, fun heard => onEither_ignored heard refused⟩
  · subst hd
    have staged := rotsetAnswer_staged hr (readStagedList_of (dwell := dwell) (db := db) len lo hi named hy) s.goodCell
    exact ⟨fun hears => onEither_hears hears staged, fun heard => onEither_heard heard staged⟩

end Sys2Proof.Proofs
end

section
/-! PROOFS. The requests to the raster and genlock unit (spec 7): RASTER (R118) and GENLOCK (R120). -/

namespace Sys2Proof.Proofs

open Sys2Proof.Machine Sys2Proof.Claims Sys2Proof.Safety

variable {s : State} {aw ah tw th : Half} {bg : Word} {r : Raster} {sb : Byte} {src : Fin 16}

/-! ### RASTER -/

/-- A raster is read just where it is in range, and it is what the fields carry (R118, R177). -/
theorem readRaster_eq_some : readRaster aw ah tw th bg = some r
    ↔ r = ⟨aw.toNat + 1, ah.toNat + 1, tw.toNat + 1, th.toNat + 1, colourOf bg⟩ ∧ RasterLegal r := by
  refine ⟨fun read => ⟨?_, readRaster_legal read⟩, ?_⟩
  · simp only [readRaster, Option.bind_eq_bind, Option.bind_eq_some_iff, Option.some.injEq, readRange_eq_some, readColour_eq] at read
    obtain ⟨_, ⟨-, rfl⟩, _, ⟨-, rfl⟩, _, ⟨-, rfl⟩, _, ⟨-, rfl⟩, rfl⟩ := read
    rfl
  · rintro ⟨rfl, awLow, awHigh, ahLow, ahHigh, twLow, twHigh, thLow, thHigh⟩
    simp only [readRaster, readRange_eq_some.2 ⟨⟨awLow, awHigh⟩, rfl⟩, readRange_eq_some.2 ⟨⟨ahLow, ahHigh⟩, rfl⟩,
      readRange_eq_some.2 ⟨⟨twLow, twHigh⟩, rfl⟩, readRange_eq_some.2 ⟨⟨thLow, thHigh⟩, rfl⟩, readColour_eq, Option.bind_eq_bind,
      Option.bind_some]

theorem rasterAnswer_staged (read : readRaster aw ah tw th bg = some r) (s : State) : rasterAnswer aw ah tw th bg s
    = ⟨s.setRgu { s.rgu with staged := some r }, .armed,
        [if s.rgu.staged = none then 0#8 else 1#8, genlockNumber s.rgu.genlock], none⟩ := by
  have replaced : flagByte s.rgu.staged.isSome = if s.rgu.staged = none then 0#8 else 1#8 := by
    cases s.rgu.staged <;> rfl
  rw [rasterAnswer, read, ← genlockNumber_eq, ← replaced]

theorem rasterAnswer_refused (read : readRaster aw ah tw th bg = none) (s : State) :
    rasterAnswer aw ah tw th bg s = refuse s .range := by
  rw [rasterAnswer, read]

/-- Settles O30: a raster is read just where it is in range. -/
theorem rasterIsStaged : Obligations.RasterIsStaged := by
  intro q aw ah tw th bg s r carried
  refine ⟨fun legal => ?_, fun illegal => ?_⟩
  · have staged := rasterAnswer_staged (readRaster_eq_some.2 ⟨carried, legal⟩) s.goodCell
    exact ⟨fun hears => onEither_hears hears staged, fun heard => onEither_heard heard staged⟩
  · have unread : readRaster aw ah tw th bg = none := Option.eq_none_iff_forall_ne_some.2 fun x read => by
      obtain ⟨rfl, legal⟩ := readRaster_eq_some.1 read
      exact illegal (carried ▸ legal)
    have refused := rasterAnswer_refused unread s.goodCell
    exact ⟨fun hears => onEither_refused hears refused, fun heard => onEither_ignored heard refused⟩

/-! ### GENLOCK -/

/-- RGU is written by a request that leaves LOCKED, if genlock was LOCKED (R120, R166). -/
theorem setRgu_unlocking (g : Rgu) (s : State) : (s.setRgu g).raiseIf (decide (s.rgu.genlock = .locked)) .lockChange = { s with
    rgu := g, conditions := if s.rgu.genlock = .locked then s.conditions ||| BitVec.twoPow 12 8 else s.conditions } := by
  by_cases locked : s.rgu.genlock = .locked
  · rw [decide_eq_true locked, if_pos locked]
    rfl
  · rw [decide_eq_false locked, if_neg locked]
    rfl

theorem readReference_of (h : Names sb src) : readReference sb = some (some src) := by
  have named : sb.toNat = src.val := h
  rw [readReference, if_neg (by omega), readIndex_of h, Option.map_some]

theorem readReference_none (high : 16 ≤ sb.toNat) (source : sb.toNat ≠ 255) : readReference sb = none := by
  rw [readReference, if_neg source, readIndex_none high, Option.map_none]

/-- No store of the source is LIVE. -/
theorem sourceLive_false (h : ∀ i, (s.store i).binding = some src → (s.store i).state ≠ .live) : s.sourceLive src = false := by
  refine Bool.eq_false_iff.2 fun live => ?_
  obtain ⟨i, stored, live⟩ := sourceLive_iff.1 live
  exact h i (storeOf_binding stored) live

theorem genlockAnswer_free (h : sb.toNat = 255) (s : State) : genlockAnswer sb s = ⟨genlockNone s, .done, [0#8], none⟩ := by
  have free : (genlockNone s).rgu.genlock.number = 0#8 := by
    rw [genlockNone, State.raiseIf_rgu]
    rfl
  rw [genlockAnswer, readReference, if_pos h]
  simp only [free]

theorem genlockAnswer_refused (high : 16 ≤ sb.toNat) (source : sb.toNat ≠ 255) (s : State) :
    genlockAnswer sb s = refuse s .range := by
  rw [genlockAnswer, readReference_none high source]

theorem genlockAnswer_notLive (h : Names sb src) (dead : s.sourceLive src = false) :
    genlockAnswer sb s = ⟨s, .notLive, [genlockNumber s.rgu.genlock], none⟩ := by
  simp only [genlockAnswer, readReference_of h, dead, Bool.false_eq_true, if_false, genlockNumber_eq]

theorem genlockAnswer_acquires (h : Names sb src) (live : s.sourceLive src = true) :
    genlockAnswer sb s = ⟨genlockTo src s, .done, [1#8], none⟩ := by
  have acquire : (genlockTo src s).rgu.genlock.number = 1#8 := by
    rw [genlockTo, State.raiseIf_rgu]
    rfl
  simp only [genlockAnswer, readReference_of h, live, if_true, acquire]

/-- Settles O31, by what the source field names and whether its store is LIVE. -/
theorem genlockChoosesTheReference : Obligations.GenlockChoosesTheReference := by
  rintro q sb s free acquired rfl
  refine ⟨fun noSource => ?_, fun high source => ?_, fun src names => ⟨fun dead => ?_, fun i bound live hacquired => ?_⟩⟩
  · have freed := genlockAnswer_free noSource s.goodCell
    rw [genlockNone, setRgu_unlocking] at freed
    exact ⟨fun hears => onEither_hears hears freed, fun heard => onEither_heard heard freed⟩
  · have refused := genlockAnswer_refused high source s.goodCell
    exact ⟨fun hears => onEither_refused hears refused, fun heard => onEither_ignored heard refused⟩
  · have notLive := genlockAnswer_notLive (s := s.goodCell) names (sourceLive_false dead)
    exact ⟨fun hears => onEither_hears hears notLive, fun heard => onEither_heard heard notLive⟩
  · subst hacquired
    have acquires := genlockAnswer_acquires (s := s.goodCell) names (sourceLive_iff.2 ⟨i, storeOf_boundAt bound, live⟩)
    rw [genlockTo, setRgu_unlocking] at acquires
    exact ⟨fun hears => onEither_hears hears acquires, fun heard => onEither_heard heard acquires⟩

end Sys2Proof.Proofs
end

section
/-! PROOFS. RGU's raster and genlock work (R119, R123, R124), as functions of RGU alone; the moves of the genlock state by its counts. -/

namespace Sys2Proof.Proofs

open Sys2Proof.Machine Sys2Proof.Claims Sys2Proof.Safety

variable {s : State} {g : Rgu} {x y : GenlockState} {r : Raster} {e : Int} {good bad : Nat}

/-! ### The work on RGU -/

/-- RGU as a used capture of phase error `e` leaves it (R123, R124). -/
def captureUsed (e : Int) (g : Rgu) : Rgu :=
  { g with
    nextCorr := (corrected g.genlock e g.trim).1
    trim := (corrected g.genlock e g.trim).2
    lastE := if g.staged.isSome then g.lastE else some e
    capture := none
    genlock := (counted g.genlock g.goodCount g.badCount e).1
    goodCount := (counted g.genlock g.goodCount g.badCount e).2.1
    badCount := (counted g.genlock g.goodCount g.badCount e).2.2 }

/-- RGU after its genlock work (R123, R124). -/
def genlockTaken (g : Rgu) : Rgu :=
  if g.genlock = .free then { g with nextCorr := 0, trim := 0, capture := none }
  else g.capture.elim { g with nextCorr := 0, goodCount := 0, badCount := 0 } fun e => captureUsed e g

/-- RGU acquires anew, its last used e kept (R119). -/
def reacquiring (g : Rgu) : Rgu :=
  { g with genlock := .acquire, goodCount := 0, badCount := 0, trim := 0, nextCorr := 0, capture := none }

/-- RGU after the application of a staged raster (R119). -/
def rasterTaken (g : Rgu) : Rgu :=
  g.staged.elim g fun r => { (if g.genlock = .free then g else reacquiring g) with raster := r, staged := none }

theorem genlockTaken_free (free : g.genlock = .free) : genlockTaken g = { g with nextCorr := 0, trim := 0, capture := none } :=
  if_pos free

theorem genlockTaken_noCapture (busy : g.genlock ≠ .free) (capture : g.capture = none) :
    genlockTaken g = { g with nextCorr := 0, goodCount := 0, badCount := 0 } := by
  rw [genlockTaken, if_neg busy, capture, Option.elim_none]

theorem genlockTaken_used (busy : g.genlock ≠ .free) (capture : g.capture = some e) : genlockTaken g = captureUsed e g := by
  rw [genlockTaken, if_neg busy, capture, Option.elim_some]

theorem rasterTaken_none (staged : g.staged = none) : rasterTaken g = g := by rw [rasterTaken, staged, Option.elim_none]

theorem rasterTaken_free (staged : g.staged = some r) (free : g.genlock = .free) :
    rasterTaken g = { g with raster := r, staged := none } := by
  rw [rasterTaken, staged, Option.elim_some, if_pos free]

theorem rasterTaken_busy (staged : g.staged = some r) (busy : g.genlock ≠ .free) :
    rasterTaken g = { reacquiring g with raster := r, staged := none } := by
  rw [rasterTaken, staged, Option.elim_some, if_neg busy]

theorem genlockTaken_kept (g : Rgu) : (genlockTaken g).raster = g.raster ∧ (genlockTaken g).staged = g.staged
    ∧ (genlockTaken g).reference = g.reference ∧ (genlockTaken g).capture = none := by
  by_cases free : g.genlock = .free
  · rw [genlockTaken_free free]
    exact ⟨rfl, rfl, rfl, rfl⟩
  · cases capture : g.capture with
    | none =>
      rw [genlockTaken_noCapture free capture]
      exact ⟨rfl, rfl, rfl, capture⟩
    | some e =>
      rw [genlockTaken_used free capture]
      exact ⟨rfl, rfl, rfl, rfl⟩

theorem rasterTaken_reference (g : Rgu) : (rasterTaken g).reference = g.reference := by
  cases staged : g.staged with
  | none => rw [rasterTaken_none staged]
  | some r =>
    by_cases free : g.genlock = .free
    · rw [rasterTaken_free staged free]
    · rw [rasterTaken_busy staged free]
      rfl

/-! ### The work on the state -/

/-- RGU is written; LOCK_CHANGE is set if genlock enters or leaves LOCKED (R124, R166). -/
def rguMoved (g : Rgu) (s : State) : State := (s.setRgu g).raiseIf (lockChanges s.rgu.genlock g.genlock) .lockChange

theorem rguMoved_rgu (g : Rgu) (s : State) : (rguMoved g s).rgu = g := State.raiseIf_rgu _ _ _

theorem lockChanges_self (x : GenlockState) : lockChanges x x = false := by cases x <;> rfl

/-- Where the genlock state stays RGU alone is written. -/
theorem rguMoved_same (h : g.genlock = s.rgu.genlock) : rguMoved g s = s.setRgu g := by
  rw [rguMoved, h, lockChanges_self]
  rfl

theorem genlockWork_eq (s : State) : genlockWork s = rguMoved (genlockTaken s.rgu) s := by
  unfold genlockWork
  simp only
  split
  · rename_i free
    rw [genlockTaken_free free]
    exact (rguMoved_same (by rfl)).symm
  · rename_i capture busy
    rw [genlockTaken_noCapture busy capture]
    exact (rguMoved_same (by rfl)).symm
  · rename_i capture busy
    rw [genlockTaken_used busy capture]
    rfl

theorem applyRaster_eq (s : State) : applyRaster s = rguMoved (rasterTaken s.rgu) s := by
  unfold applyRaster
  split
  · rename_i staged
    rw [rasterTaken_none staged, rguMoved_same rfl]
    rfl
  · rename_i staged
    split
    · rename_i free
      rw [rasterTaken_free staged free]
      exact (rguMoved_same (by rfl)).symm
    · rename_i busy
      have lock : lockChanges s.rgu.genlock .acquire = decide (s.rgu.genlock = .locked) := by cases s.rgu.genlock <;> rfl
      rw [rasterTaken_busy staged busy, ← lock]
      rfl

/-! ### The counts (R124) -/

theorem counted_acquire_bad (far : 2200 < e.natAbs) : counted .acquire good bad e = (.acquire, 0, bad) := by
  simp only [counted, if_neg (Nat.not_le.2 far)]

theorem counted_acquire_good (near : e.natAbs ≤ 2200) (few : good < 3) :
    counted .acquire good bad e = (.acquire, good + 1, bad) := by
  have below : ¬ 4 ≤ good + 1 := by omega
  simp only [counted, if_pos near, if_neg below]

theorem counted_acquire_done (near : e.natAbs ≤ 2200) (enough : 3 ≤ good) : counted .acquire good bad e = (.track, 0, 0) := by
  have reached : 4 ≤ good + 1 := by omega
  simp only [counted, if_pos near, if_pos reached]

theorem counted_track_bad (far : 64 < e.natAbs) : counted .track good bad e = (.track, 0, bad) := by
  simp only [counted, if_neg (Nat.not_le.2 far)]

theorem counted_track_good (near : e.natAbs ≤ 64) (few : good < 7) : counted .track good bad e = (.track, good + 1, bad) := by
  have below : ¬ 8 ≤ good + 1 := by omega
  simp only [counted, if_pos near, if_neg below]

theorem counted_track_done (near : e.natAbs ≤ 64) (enough : 7 ≤ good) : counted .track good bad e = (.locked, 0, 0) := by
  have reached : 8 ≤ good + 1 := by omega
  simp only [counted, if_pos near, if_pos reached]

theorem counted_locked_good (near : e.natAbs ≤ 512) : counted .locked good bad e = (.locked, good, 0) := by
  simp only [counted, if_neg (Nat.not_lt.2 near)]

theorem counted_locked_bad (far : 512 < e.natAbs) (few : bad < 1) : counted .locked good bad e = (.locked, good, bad + 1) := by
  have below : ¬ 2 ≤ bad + 1 := by omega
  simp only [counted, if_pos far, if_neg below]

theorem counted_locked_done (far : 512 < e.natAbs) (enough : 1 ≤ bad) : counted .locked good bad e = (.track, 0, 0) := by
  have reached : 2 ≤ bad + 1 := by omega
  simp only [counted, if_pos far, if_pos reached]

/-! ### The moves -/

/-- RGU after a move to genlock state `y` by phase error `e`, with `c` and `trim` for the next frame (R123, R124). -/
def movedTo (y : GenlockState) (e c trim : Int) (g : Rgu) : Rgu :=
  { g with genlock := y, goodCount := 0, badCount := 0, capture := none, lastE := some e, nextCorr := c, trim := trim }

/-- A move that the counts make is taken as a step of its own (R124, log 5). -/
theorem genlockMove_of (running : s.rgu.scan = .running) (unmarked : FrameEndMark.genlock ∉ s.early) (staged : s.rgu.staged = none)
    (capture : s.rgu.capture = some e) (before : s.rgu.genlock = x) (busy : x ≠ .free)
    (counts : counted x s.rgu.goodCount s.rgu.badCount e = (y, 0, 0)) : genlockMove x y s
      = ((s.setRgu (movedTo y e (corrected x e s.rgu.trim).1 (corrected x e s.rgu.trim).2 s.rgu)).raiseIf (lockChanges x y)
          .lockChange).mark .genlock := by
  have work : genlockWork s
      = rguMoved (movedTo y e (corrected x e s.rgu.trim).1 (corrected x e s.rgu.trim).2 s.rgu) s := by
    rw [genlockWork_eq, genlockTaken_used (by rw [before]; exact busy) capture]
    simp only [captureUsed, movedTo, before, counts, staged, Option.isSome_none, Bool.false_eq_true, if_false]
  have due : genlockDue x y s = true := by
    simp [genlockDue, running, State.marked, unmarked, staged, before, work, rguMoved_rgu, movedTo]
  rw [genlockMove, if_pos due, work, rguMoved, before]
  rfl

/-- Settles O32: each move by what the counts come to. -/
theorem genlockMovesByItsCounts : Obligations.GenlockMovesByItsCounts := by
  intro s e running unmarked staged capture
  refine ⟨fun acquire near enough => ?_, fun track near enough => ?_, fun locked far enough => ?_⟩
  · exact congrArg _ (genlockMove_of running unmarked staged capture acquire (by decide) (counted_acquire_done near enough))
  · exact congrArg _ (genlockMove_of running unmarked staged capture track (by decide) (counted_track_done near enough))
  · exact congrArg _ (genlockMove_of running unmarked staged capture locked (by decide) (counted_locked_done far enough))

end Sys2Proof.Proofs
end

section
/-! PROOFS. RGU at an output frame end, in any order of its blocks, while the reference stays LIVE (R119, R123, R124). -/

namespace Sys2Proof.Proofs

open Sys2Proof.Machine Sys2Proof.Claims Sys2Proof.Safety

variable {s t u : State} {g : Rgu} {r : Raster} {e : Int}

/-! ### The parts commute -/

/-- RGU with one more output frame counted (R116). -/
def frameCounted (g : Rgu) : Rgu := { g with counter := wrapInc g.counter }

/-- What a part of an output frame end makes of RGU, if no silence count takes the reference out of LIVE: `m` says whether RGU has taken
its genlock work already (log 5). -/
def rguPart (m : Bool) : FrameEndPart → Rgu → Rgu
  | .count, g => frameCounted g
  | .raster, g => if m then g else rasterTaken g
  | .genlock, g => if m then g else genlockTaken g
  | _, g => g

/-- Where a raster is applied RGU acquires anew, unless it is FREE (R119). -/
theorem genlockTaken_rasterTaken_free (staged : g.staged = some r) (free : g.genlock = .free) :
    genlockTaken (rasterTaken g) = { g with raster := r, staged := none, nextCorr := 0, trim := 0, capture := none } := by
  rw [rasterTaken_free staged free]
  exact genlockTaken_free free

theorem genlockTaken_rasterTaken_busy (staged : g.staged = some r) (busy : g.genlock ≠ .free) :
    genlockTaken (rasterTaken g) = { reacquiring g with raster := r, staged := none } := by
  rw [rasterTaken_busy staged busy]
  exact genlockTaken_noCapture (by simp [reacquiring]) rfl

/-- The raster's application and the genlock work of one output frame end have one outcome, whichever is first (R119). -/
theorem genlockTaken_rasterTaken (g : Rgu) : genlockTaken (rasterTaken g) = rasterTaken (genlockTaken g) := by
  cases staged : g.staged with
  | none =>
    obtain ⟨-, still, -, -⟩ := genlockTaken_kept g
    rw [rasterTaken_none staged, rasterTaken_none (still.trans staged)]
  | some r =>
    by_cases free : g.genlock = .free
    · rw [genlockTaken_rasterTaken_free staged free, genlockTaken_free free, rasterTaken_free (by exact staged) (by exact free)]
    · rw [genlockTaken_rasterTaken_busy staged free]
      cases capture : g.capture with
      | none =>
        rw [genlockTaken_noCapture free capture, rasterTaken_busy (by exact staged) (by exact free)]
        rfl
      | some e =>
        rw [genlockTaken_used free capture, rasterTaken_busy (by exact staged) (by exact counted_free free _ _ _)]
        simp [reacquiring, captureUsed, staged]

/-- The frame counter stands beside all this. -/
theorem rasterTaken_frameCounted (g : Rgu) : rasterTaken (frameCounted g) = frameCounted (rasterTaken g) := by
  obtain ⟨_, staged, _, _, _, _, _, genlock, _, _, _, _, _, _, _⟩ := g
  cases staged with
  | none => rfl
  | some r => cases genlock <;> rfl

theorem genlockTaken_frameCounted (g : Rgu) : genlockTaken (frameCounted g) = frameCounted (genlockTaken g) := by
  obtain ⟨_, _, _, _, _, _, _, genlock, _, _, _, capture, _, _, _⟩ := g
  cases capture <;> cases genlock <;> rfl

/-- So the parts commute. -/
theorem rguPart_comm (m : Bool) (x y : FrameEndPart) (g : Rgu) : rguPart m x (rguPart m y g) = rguPart m y (rguPart m x g) := by
  cases m with
  | true =>
    cases x with
    | count => cases y <;> rfl
    | _ => rfl
  | false =>
    cases x with
    | count => cases y with
      | raster => exact (rasterTaken_frameCounted g).symm
      | genlock => exact (genlockTaken_frameCounted g).symm
      | _ => rfl
    | raster => cases y with
      | count => exact rasterTaken_frameCounted g
      | genlock => exact (genlockTaken_rasterTaken g).symm
      | _ => rfl
    | genlock => cases y with
      | count => exact genlockTaken_frameCounted g
      | raster => exact genlockTaken_rasterTaken g
      | _ => rfl
    | _ => rfl

/-! ### RGU after the parts -/

theorem framePart_genlockMark (x : FrameEndPart) (s : State) : (framePart x s).marked .genlock = s.marked .genlock := by
  refine decide_eq_decide.2 ?_
  by_cases hx : x = .lists
  · subst hx
    exact ((listPart_taken s).early .genlock).trans (or_iff_left (by simp))
  · rw [framePart_early hx]

theorem framePart_rgu {x : FrameEndPart} (hx : x ≠ .silence) (s : State) :
    (framePart x s).rgu = rguPart (s.marked .genlock) x s.rgu := by
  cases x with
  | silence => exact absurd rfl hx
  | count => rfl
  | raster =>
    rw [framePart, rasterPart, applyRaster_eq, rguPart, apply_ite State.rgu, rguMoved_rgu]
  | genlock =>
    rw [framePart, genlockPart, genlockWork_eq, rguPart, apply_ite State.rgu, rguMoved_rgu]
  | selection | swap | transitions | lists | freezes | survey => exact framePart_alters _ s .rgu (by decide)

theorem frameParts_rgu {xs : List FrameEndPart} (hx : FrameEndPart.silence ∉ xs) (s : State) :
    (xs.foldl (fun s x => framePart x s) s).rgu = xs.foldl (fun g x => rguPart (s.marked .genlock) x g) s.rgu
    ∧ (xs.foldl (fun s x => framePart x s) s).marked .genlock = s.marked .genlock := by
  induction xs generalizing s with
  | nil => exact ⟨rfl, rfl⟩
  | cons x xs ih =>
    obtain ⟨hne, hxs⟩ : FrameEndPart.silence ≠ x ∧ FrameEndPart.silence ∉ xs := by simpa using hx
    obtain ⟨rgu, mark⟩ := ih hxs (framePart x s)
    rw [framePart_genlockMark, framePart_rgu (Ne.symm hne)] at rgu
    exact ⟨rgu, mark.trans (framePart_genlockMark x s)⟩

/-- While no silence count takes the reference out of LIVE, RGU does not read the order of the parts. -/
theorem afterParts_rgu (stays : ¬ ReferenceGoes s) (order : List FrameEndPart) : (afterParts order s).rgu
    = (completeOrder order).foldl (fun g x => rguPart (s.marked .genlock) x g) s.rgu := by
  obtain ⟨xs, ys, horder, notBefore, notAfter, -⟩ := order_around order .silence
  have before := frameParts_still notBefore s
  obtain ⟨rguBefore, markBefore⟩ := frameParts_rgu notBefore s
  rw [afterParts, horder, List.foldl_append, List.foldl_cons, List.foldl_append, List.foldl_cons]
  revert before rguBefore markBefore
  generalize xs.foldl (fun s x => framePart x s) s = u
  intro before rguBefore markBefore
  have kept : (framePart .silence u).rgu = u.rgu :=
    (silencePart_silenced u).kept fun leaves => stays (before.leaves.1 leaves).2
  rw [(frameParts_rgu notAfter _).1, kept, framePart_genlockMark, markBefore, rguBefore]
  rfl

/-- The parts of every order, RGU's last. -/
theorem completeOrder_perm (order : List FrameEndPart) : (completeOrder order).Perm
    [.selection, .silence, .swap, .transitions, .lists, .freezes, .survey, .raster, .genlock, .count] :=
  (List.perm_ext_iff_of_nodup (completeOrder_nodup order) (by decide)).2 fun x =>
    iff_of_true (mem_completeOrder order x) (by cases x <;> decide)

/-! ### LOCK_CHANGE -/

/-- LOCK_CHANGE stays set, and is set where genlock enters or leaves LOCKED (R124, R166). -/
structure LockNoted (s t : State) : Prop where
  kept : s.conditions.getLsbD 8 = true → t.conditions.getLsbD 8 = true
  noted : ¬ (t.rgu.genlock = .locked ↔ s.rgu.genlock = .locked) → t.conditions.getLsbD 8 = true

/-- The last step first. -/
theorem LockNoted.after (k : LockNoted t u) (h : LockNoted s t) : LockNoted s u := by
  refine ⟨fun hs => k.kept (h.kept hs), fun changed => ?_⟩
  by_cases first : t.rgu.genlock = .locked ↔ s.rgu.genlock = .locked
  · exact k.noted fun later => changed (later.trans first)
  · exact k.kept (h.noted first)

theorem LockNoted.same (kept : s.conditions.getLsbD 8 = true → t.conditions.getLsbD 8 = true) (h : t.rgu = s.rgu) : LockNoted s t :=
  ⟨kept, fun changed => absurd (by rw [h]) changed⟩

theorem LockNoted.quiet (hq : Quiet s t) (h : t.rgu = s.rgu) : LockNoted s t := .same (fun set => by rw [hq.conditions, set]) h

theorem rguMoved_lockNoted (g : Rgu) (s : State) : LockNoted s (rguMoved g s) := by
  have bit : (rguMoved g s).conditions.getLsbD 8 = (s.conditions.getLsbD 8 || lockChanges s.rgu.genlock g.genlock) := by
    rw [rguMoved, raiseIf_bit, decide_eq_true (show 8 = Condition.lockChange.bit from rfl), Bool.and_true, State.setRgu_conditions]
  refine ⟨fun h => by rw [bit, h, Bool.true_or], fun changed => ?_⟩
  rw [rguMoved_rgu] at changed
  have lock : lockChanges s.rgu.genlock g.genlock = true := by
    revert changed
    cases s.rgu.genlock <;> cases g.genlock <;> decide
  rw [bit, lock, Bool.or_true]

theorem silencePart_lockNoted (s : State) : LockNoted s (silencePart s) := by
  have counted := silencePart_silenced s
  by_cases leaves : ReferenceLeaves (List.finRange 8) s
  · refine ⟨counted.lockChange, fun changed => counted.unlocked leaves ?_⟩
    by_contra unlocked
    exact changed (iff_of_false (by rw [counted.freed leaves]; simp [freed]) unlocked)
  · exact .same counted.lockChange (counted.kept leaves)

theorem framePart_lockNoted (x : FrameEndPart) (s : State) : LockNoted s (framePart x s) := by
  have unmoved : LockNoted s s := .same id rfl
  cases x with
  | silence => exact silencePart_lockNoted s
  | raster =>
    rw [framePart, rasterPart, applyRaster_eq]
    split
    · exact unmoved
    · exact rguMoved_lockNoted _ s
  | genlock =>
    rw [framePart, genlockPart, genlockWork_eq]
    split
    · exact unmoved
    · exact rguMoved_lockNoted _ s
  | count => exact ⟨id, fun changed => absurd Iff.rfl changed⟩
  | selection | swap | transitions | lists | freezes | survey =>
    exact .quiet (framePart_quiet (by simp) s) (framePart_alters _ s .rgu (by decide))

theorem frameEnd_lockNoted (order : List FrameEndPart) (s : State) : LockNoted s (frameEnd order s) := by
  have parts : LockNoted s (afterParts order s) :=
    foldl_keeps (P := LockNoted s) (fun t x h => (framePart_lockNoted x t).after h) _ (.same id rfl)
  exact ⟨parts.kept, parts.noted⟩

/-! ### What a used capture comes to -/

theorem captureUsed_lastE (staged : g.staged = none) (e : Int) : (captureUsed e g).lastE = some e := by
  rw [captureUsed, staged]
  rfl

theorem captureUsed_narrow (h : g.genlock = .track ∨ g.genlock = .locked) (e : Int) :
    (captureUsed e g).nextCorr = clampTo 220 (e.tdiv 32) ∧ (captureUsed e g).trim = clampTo 2200 (g.trim + e.tdiv 256) := by
  rw [captureUsed]
  rcases h with h | h <;> rw [h] <;> exact ⟨rfl, rfl⟩

/-- The genlock state and the counts after a used capture are those that the counts come to (R124). -/
theorem captureUsed_counted {x y : GenlockState} {good bad : Nat} (before : g.genlock = x)
    (counts : counted x g.goodCount g.badCount e = (y, good, bad)) :
    (captureUsed e g).genlock = y ∧ (captureUsed e g).goodCount = good ∧ (captureUsed e g).badCount = bad := by
  rw [captureUsed, before, counts]
  exact ⟨rfl, rfl, rfl⟩

/-- A used capture in ACQUIRE (R123, R124). -/
theorem captureUsed_acquire (acquire : g.genlock = .acquire) (e : Int) :
    (captureUsed e g).nextCorr = clampTo 2200 (e.tdiv 4) ∧ (captureUsed e g).trim = g.trim
    ∧ (2200 < e.natAbs → (captureUsed e g).genlock = .acquire ∧ (captureUsed e g).goodCount = 0)
    ∧ (e.natAbs ≤ 2200 → g.goodCount < 3 →
        (captureUsed e g).genlock = .acquire ∧ (captureUsed e g).goodCount = g.goodCount + 1)
    ∧ (e.natAbs ≤ 2200 → g.goodCount = 3 →
        (captureUsed e g).genlock = .track ∧ (captureUsed e g).goodCount = 0 ∧ (captureUsed e g).badCount = 0) := by
  refine ⟨by rw [captureUsed, acquire]; rfl, by rw [captureUsed, acquire]; rfl, fun far => ?_, fun near few => ?_,
    fun near enough => captureUsed_counted acquire (counted_acquire_done near enough.ge)⟩
  · obtain ⟨state, count, -⟩ := captureUsed_counted acquire (counted_acquire_bad far)
    exact ⟨state, count⟩
  · obtain ⟨state, count, -⟩ := captureUsed_counted acquire (counted_acquire_good near few)
    exact ⟨state, count⟩

/-- A used capture in TRACK (R124). -/
theorem captureUsed_track (track : g.genlock = .track) (e : Int) :
    (64 < e.natAbs → (captureUsed e g).genlock = .track ∧ (captureUsed e g).goodCount = 0)
    ∧ (e.natAbs ≤ 64 → g.goodCount < 7 → (captureUsed e g).genlock = .track ∧ (captureUsed e g).goodCount = g.goodCount + 1)
    ∧ (e.natAbs ≤ 64 → g.goodCount = 7 →
        (captureUsed e g).genlock = .locked ∧ (captureUsed e g).goodCount = 0 ∧ (captureUsed e g).badCount = 0) := by
  refine ⟨fun far => ?_, fun near few => ?_,
    fun near enough => captureUsed_counted track (counted_track_done near enough.ge)⟩
  · obtain ⟨state, count, -⟩ := captureUsed_counted track (counted_track_bad far)
    exact ⟨state, count⟩
  · obtain ⟨state, count, -⟩ := captureUsed_counted track (counted_track_good near few)
    exact ⟨state, count⟩

/-- A used capture in LOCKED (R124). -/
theorem captureUsed_locked (locked : g.genlock = .locked) (e : Int) :
    (e.natAbs ≤ 512 → (captureUsed e g).genlock = .locked ∧ (captureUsed e g).badCount = 0)
    ∧ (512 < e.natAbs → g.badCount = 0 → (captureUsed e g).genlock = .locked ∧ (captureUsed e g).badCount = 1)
    ∧ (512 < e.natAbs → g.badCount = 1 →
        (captureUsed e g).genlock = .track ∧ (captureUsed e g).goodCount = 0 ∧ (captureUsed e g).badCount = 0) := by
  refine ⟨fun near => ?_, fun far first => ?_, fun far second => captureUsed_counted locked (counted_locked_done far second.ge)⟩
  · obtain ⟨state, -, count⟩ := captureUsed_counted locked (counted_locked_good near)
    exact ⟨state, count⟩
  · obtain ⟨state, -, count⟩ := captureUsed_counted locked (counted_locked_bad far (by omega))
    exact ⟨state, by rw [count, first]⟩

/-! ### The output frame end -/

/-- RGU between two frames, its frame counter at `c` and its tick at `n`. -/
def betweenFrames (g : Rgu) (c n : Nat) : Rgu := { g with scan := .between, counter := c, tick := n }

/-- RGU after an output frame end that leaves the reference LIVE. -/
theorem frameEnd_rguTaken (stays : ¬ ReferenceGoes s) (order : List FrameEndPart) : ∃ c n,
    (FrameEndMark.genlock ∈ s.early → (frameEnd order s).rgu = betweenFrames s.rgu c n)
    ∧ (FrameEndMark.genlock ∉ s.early → (frameEnd order s).rgu = betweenFrames (genlockTaken (rasterTaken s.rgu)) c n) := by
  have parts := afterParts_rgu stays order
  rw [(completeOrder_perm order).foldl_eq' fun x _ y _ g => rguPart_comm _ y x g] at parts
  refine ⟨(afterParts order s).rgu.counter, (afterParts order s).rgu.length - 1, fun taken => ?_, fun due => ?_⟩
  · have marked : s.marked .genlock = true := decide_eq_true taken
    rw [frameEnd_eq, closeFrame, State.setRgu_rgu, parts, marked]
    rfl
  · have unmarked : s.marked .genlock = false := decide_eq_false due
    rw [frameEnd_eq, closeFrame, State.setRgu_rgu, parts, unmarked]
    rfl

/-- Nothing at an output frame end but the loss of the reference writes it (R125). -/
theorem frameEnd_reference (stays : ¬ ReferenceGoes s) (order : List FrameEndPart) :
    (frameEnd order s).rgu.reference = s.rgu.reference := by
  obtain ⟨c, n, rguMarked, rguDue⟩ := frameEnd_rguTaken stays order
  obtain ⟨-, -, reference, -⟩ := genlockTaken_kept (rasterTaken s.rgu)
  by_cases taken : FrameEndMark.genlock ∈ s.early
  · rw [rguMarked taken]
    rfl
  · rw [rguDue taken]
    exact reference.trans (rasterTaken_reference s.rgu)

/-- With no raster staged the raster stays (R119). -/
theorem frameEnd_unstaged (stays : ¬ ReferenceGoes s) (staged : s.rgu.staged = none) (order : List FrameEndPart) :
    (frameEnd order s).rgu.raster = s.rgu.raster ∧ (frameEnd order s).rgu.staged = none := by
  obtain ⟨c, n, rguMarked, rguDue⟩ := frameEnd_rguTaken stays order
  obtain ⟨raster, still, -, -⟩ := genlockTaken_kept s.rgu
  by_cases taken : FrameEndMark.genlock ∈ s.early
  · rw [rguMarked taken]
    exact ⟨rfl, staged⟩
  · rw [rguDue taken, rasterTaken_none staged]
    exact ⟨raster, still.trans staged⟩

/-- Settles O48: RGU takes both parts once in every order, and they commute; LOCK_CHANGE follows the state before and after. -/
theorem frameEndTakesRasterAndGenlock : Obligations.FrameEndTakesRasterAndGenlock := by
  intro order s running stays
  obtain ⟨c, n, rguMarked, rguDue⟩ := frameEnd_rguTaken stays order
  have lock := (frameEnd_lockNoted order s).noted
  refine ⟨frameEnd order s, congrArg _ (if_pos running), frameEnd_reference stays order, fun taken => ?_, fun r staged due => ?_,
    fun staged => ?_⟩
  · rw [rguMarked taken]
    exact ⟨rfl, rfl, rfl, rfl, rfl, rfl, rfl, rfl, rfl⟩
  · by_cases free : s.rgu.genlock = .free
    · rw [rguDue due, genlockTaken_rasterTaken_free staged free]
      exact ⟨rfl, rfl, rfl, fun _ => free, fun busy => absurd free busy, fun locked => absurd (free.symm.trans locked) (by decide)⟩
    · rw [rguDue due, genlockTaken_rasterTaken_busy staged free] at lock ⊢
      exact ⟨rfl, rfl, rfl, fun h => absurd h free, fun _ => ⟨rfl, rfl, rfl, rfl, rfl, rfl⟩,
        fun locked => lock fun same => nomatch same.2 locked⟩
  · obtain ⟨raster, still⟩ := frameEnd_unstaged stays staged order
    obtain ⟨-, -, -, capture⟩ := genlockTaken_kept s.rgu
    refine ⟨raster, still, fun due => ?_⟩
    rw [rguDue due, rasterTaken_none staged] at lock ⊢
    refine ⟨capture, fun free => ?_, fun busy uncaptured => ?_, fun e used => ?_⟩
    · rw [genlockTaken_free free]
      exact ⟨free, rfl, rfl⟩
    · rw [genlockTaken_noCapture busy uncaptured]
      exact ⟨rfl, rfl, rfl, rfl, rfl, rfl⟩
    · have work {x : GenlockState} (h : s.rgu.genlock = x) (busy : x ≠ .free) : genlockTaken s.rgu = captureUsed e s.rgu :=
        genlockTaken_used (h ▸ busy) used
      refine ⟨fun busy => ?_, fun acquire => ?_, fun narrow => ?_, fun track => ?_, fun locked => ?_⟩
      · rw [work rfl busy]
        exact captureUsed_lastE staged e
      · rw [work acquire (by decide)]
        exact captureUsed_acquire acquire e
      · rw [narrow.elim (fun h => work h (by decide)) fun h => work h (by decide)]
        exact captureUsed_narrow narrow e
      · rw [work track (by decide)] at lock ⊢
        obtain ⟨far, near, moves⟩ := captureUsed_track track e
        refine ⟨far, near, fun close enough => ?_⟩
        obtain ⟨state, good, bad⟩ := moves close enough
        exact ⟨state, good, bad, lock fun same => nomatch track.symm.trans (same.1 state)⟩
      · rw [work locked (by decide)] at lock ⊢
        obtain ⟨near, far, moves⟩ := captureUsed_locked locked e
        refine ⟨near, far, fun beyond second => ?_⟩
        obtain ⟨state, good, bad⟩ := moves beyond second
        exact ⟨state, good, bad, lock fun same => nomatch state.symm.trans (same.2 locked)⟩

end Sys2Proof.Proofs
end

section
/-! PROOFS. The step (R113, R117), and RESTART (R165, R173, R174). -/

namespace Sys2Proof.Proofs

open Sys2Proof.Machine Sys2Proof.Claims Sys2Proof.Safety

variable {s : State}

/-! ### The idle tick -/

theorem step_idle (idle : s.pending = []) : step s = .next (idleTick s) := by rw [step, idle]

/-- A running frame stands one tick further, until its last (R113). -/
theorem idleTick_running (running : s.rgu.scan = .running) :
    idleTick s = if s.rgu.tick + 1 < s.rgu.length then ticked (s.rgu.tick + 1) s else s := by
  rw [idleTick, running]
  rfl

/-- The black frames of the power-on fill go round (R117). -/
theorem idleTick_fill (fill : s.rgu.scan = .fill) :
    idleTick s = s.setRgu { s.rgu with tick := (s.rgu.tick + 1) % s.rgu.length } := by
  rw [idleTick, fill]

theorem idleTick_between (between : s.rgu.scan = .between) : idleTick s = s := by
  rw [idleTick, between]

/-- Settles O1, by the scan of the raster. -/
theorem stepRunsTheFrontCommand : Obligations.StepRunsTheFrontCommand := by
  refine ⟨fun c s => rfl, fun s idle => ?_⟩
  rw [step_idle idle]
  refine ⟨fun running within => ?_, fun running last => ?_, fun fill => ?_, fun between => ?_⟩
  · rw [idleTick_running running, if_pos within]
  · rw [idleTick_running running, if_neg (Nat.not_lt.2 last)]
  · rw [idleTick_fill fill]
    rfl
  · rw [idleTick_between between]

/-! ### RESTART -/

/-- Every block takes its RESTART values (R174). -/
theorem restarted_eq (s : State) : restarted s = afterRestart s := rfl

theorem attention_eq (s : State) : s.attention = decide (s.conditions ≠ 0#12) := by
  rw [State.attention, bne, Bool.eq_iff_iff]
  simp

/-- The reply tells of the conditions and the reset cause before the reset (R165, R173). -/
theorem restartAnswer_eq (s : State) : restartAnswer s = ⟨afterRestart s, .done,
    halfBytes (s.conditions.setWidth 16) ++ [resetNumber s.lastReset], some (decide (s.conditions ≠ 0#12))⟩ := by
  rw [restartAnswer, restarted_eq, conditionsHalf_eq, resetNumber_eq, attention_eq]

/-- Settles O53: the answer is formed before the reset, and a broadcast resets alike. -/
theorem restartResetsThePart : Obligations.RestartResetsThePart := by
  intro q s
  refine ⟨fun heard => ?_, fun hears => ?_⟩
  · exact onRequest_heard heard (congrArg Answer.state (restartAnswer_eq s.goodCell))
  · obtain ⟨sync, address, target⟩ := hears
    show onEither q 26 restartAnswer s = _
    rw [onEither, onRequest_own sync address target, restartAnswer_eq]
    rfl

end Sys2Proof.Proofs
end

section
/-! PROOFS. Cells that are not for this part: the cells out of SYNC (R131, R132, R135), and in SYNC the requests that this part does
not take (R141, R142, R164). -/

namespace Sys2Proof.Proofs

open Sys2Proof.Machine Sys2Proof.Claims Sys2Proof.Safety

variable {c : Instr} {q : ReqHead} {code : Byte} {s : State}

/-- The command reaches RQU as a request of this head and code (R141, R142); if it may not be broadcast, a broadcast of it does
nothing (R164). -/
def Delivered (c : Instr) (q : ReqHead) (code : Byte) : Prop :=
  ∃ (own : State → Answer) (all : State → State),
    (mayBroadcast c = false → all = id) ∧ ∀ s, exec c s = onRequest q code own all s

theorem Delivered.addressed {own : State → Answer} (run : ∀ s, exec c s = onAddressed q code own s) : Delivered c q code :=
  ⟨own, id, fun _ => rfl, run⟩

theorem Delivered.either {own : State → Answer} (may : mayBroadcast c = true) (run : ∀ s, exec c s = onEither q code own s) :
    Delivered c q code := ⟨own, _, fun no => absurd (may.symm.trans no) (by decide), run⟩

/-- RECALL takes a broadcast in its own way: the outputs that have the preset, and no other (R18). -/
theorem delivered_recall (q : ReqHead) (mask preset : Byte) : Delivered (.recall q mask preset) q 16 := ⟨_, _, nofun, fun _ => rfl⟩

/-- Every request is delivered, whatever its unit. -/
theorem delivered_of_requestOf (h : requestOf c = some (q, code)) : Delivered c q code := by
  cases c with
  | clear | raster | outmode | silence | commit | rotset | cueset | cuedrop | genlock | restart =>
    cases h
    exact .either rfl fun _ => rfl
  | status | subscribe | release | winset | windrop | winmove | winread | discard | presave | take | freezeNow | freezeAt | thaw
  | survey | surveyread =>
    cases h
    exact .addressed fun _ => rfl
  | ident =>
    cases h
    exact .addressed (own := fun s => ⟨s, .done, identResult s, none⟩) fun _ => rfl
  | unknownRequest =>
    cases h
    exact .addressed (own := fun s => refuse s .unknown) fun _ => rfl
  | _ =>
    -- Of the commands left, RECALL alone is a request; Mathlib keeps its name from standing as a case of its own.
    cases h <;> exact delivered_recall q _ _

theorem exec_request_out (request : (requestOf c).isSome = true) (out : s.trx.link ≠ .sync) : exec c s = .next s.noCell := by
  obtain ⟨_, h⟩ := Option.isSome_iff_exists.1 request
  obtain ⟨own, all, -, run⟩ := delivered_of_requestOf h
  rw [run, onRequest_out out]

theorem onForwarded_out {act : State → State} (out : s.trx.link ≠ .sync) : onForwarded act s = .next s.noCell := onCell_out out

/-- A cell out of SYNC reaches no block, whatever it carries (R131, R132). -/
theorem exec_cell_out (cell : isCell c = true) (out : s.trx.link ≠ .sync) : exec c s = .next s.noCell := by
  cases c with
  | frameOpen | pic | frameClose | timebase | forwardCell => exact onForwarded_out out
  | enumCell => exact onCell_out out
  | headerError => exact congrArg _ (if_neg out)
  | _ => exact exec_request_out cell out

theorem noCell_eq (s : State) : s.noCell = if s.trx.brk = none then { s with fwd := ⟨.fill, false⟩ } else s := by
  cases h : s.trx.brk <;> rw [State.noCell, h] <;> rfl

/-- Settles O3, by the one way in which requests are delivered. -/
theorem cellsNotForThisPart : Obligations.CellsNotForThisPart := by
  refine ⟨fun c s cell out => ?_, fun c q code s request sync target other => ?_, fun c q code s request ignored heard => ?_⟩
  · rw [exec_cell_out cell out, noCell_eq]
  · obtain ⟨own, all, -, run⟩ := delivered_of_requestOf request
    rw [run, onRequest_other sync other target]
    rfl
  · obtain ⟨own, all, nothing, run⟩ := delivered_of_requestOf request
    rw [run, nothing ignored]
    exact onRequest_heard heard rfl

end Sys2Proof.Proofs
end

section
/-! PROOFS. The trunk receiver (spec 8): headers and the link state (R132 to R134), and ENUM (R140). -/

namespace Sys2Proof.Proofs

open Sys2Proof.Machine Sys2Proof.Claims Sys2Proof.Safety

variable {s : State} {header : List Byte} {check : Half} {next : Byte}

/-! ### Headers in SYNC -/

/-- A failed header that is not the fourth in a row (R134). -/
theorem failedHeader_few (h : s.trx.consecErrors < 3) : failedHeader s = raised 0 { s with
    trx := { s.trx with headerErrors := bumped s.trx.headerErrors, consecErrors := s.trx.consecErrors + 1 }
    fwd := ⟨.fill, false⟩ } := by
  have few : ¬ 4 ≤ s.trx.consecErrors + 1 := by omega
  rw [bumped_eq]
  exact if_neg few

/-- The fourth failed header in a row (R134). -/
theorem failedHeader_fourth (h : 3 ≤ s.trx.consecErrors) : failedHeader s = raised 1 (raised 0 { s with
    trx := { s.trx with link := .hunt, goodRun := 0, consecErrors := 0, headerErrors := bumped s.trx.headerErrors,
                        boundary := Config.trialBoundary s.freeCount }
    fwd := ⟨.fill, false⟩, freeCount := s.freeCount + 1 }) := by
  have fourth : 4 ≤ s.trx.consecErrors + 1 := by omega
  rw [bumped_eq]
  exact if_pos fourth

theorem exec_headerError (sync : s.trx.link = .sync) : exec .headerError s = .next (failedHeader s) := congrArg _ (if_pos sync)

theorem exec_linkHunt (sync : s.trx.link = .sync) (fourth : 3 ≤ s.trx.consecErrors) :
    exec .linkHunt s = .next (failedHeader s) := congrArg _ (if_pos ⟨sync, fourth⟩)

/-! ### Headers in HUNT -/

theorem goodInHunt_first (h : s.trx.goodRun = 0) : goodInHunt s = s.setTrx { s.trx with goodRun := 1 } := by
  rw [goodInHunt, h, if_neg (by decide)]

theorem goodInHunt_second (h : 1 ≤ s.trx.goodRun) :
    goodInHunt s = s.setTrx { s.trx with link := .sync, goodRun := 2, consecErrors := 0 } := if_pos (Nat.succ_le_succ h)

theorem hunting_of (hunt : s.trx.link = .hunt) (unbroken : s.trx.brk = none) : hunting s = true := by
  rw [hunting, hunt, unbroken]
  rfl

theorem exec_goodInHunt (search : hunting s = true) (good : headerCheck header = check) :
    exec (.huntHeaderCheck header check) s = .next ((goodInHunt s).send .fill) := by
  have taken : goodHeader header check = true := beq_iff_eq.2 good
  show execHuntHeaderCheck header check s = _
  rw [execHuntHeaderCheck, if_pos search, if_pos taken]

theorem exec_failedInHunt (search : hunting s = true) (failed : headerCheck header ≠ check) :
    exec (.huntHeaderCheck header check) s = .next ((failedInHunt s).send .fill) := by
  have refused : ¬ goodHeader header check = true := fun taken => failed (beq_iff_eq.1 taken)
  show execHuntHeaderCheck header check s = _
  rw [execHuntHeaderCheck, if_pos search, if_neg refused]

theorem exec_syncReached (search : hunting s = true) (second : 1 ≤ s.trx.goodRun) :
    exec .syncReached s = .next ((goodInHunt s).send .fill) := congrArg _ (if_pos ⟨search, second⟩)

/-- Settles O36: in SYNC by the count of failed headers, in HUNT by the header and the good run. -/
theorem headersMoveTheLink : Obligations.HeadersMoveTheLink := by
  intro s
  refine ⟨fun sync => ⟨fun kind => onForwarded_sync sync rfl, fun few => ?_, fun fourth => ?_⟩,
    fun hunt unbroken header check => ?_⟩
  · rw [exec_headerError sync, failedHeader_few few]
  · refine ⟨Config.trialBoundary s.freeCount, s.freeCount + 1, _, rfl, ?_, ?_⟩
    · rw [exec_headerError sync, failedHeader_fourth fourth]
    · rw [exec_linkHunt sync fourth, failedHeader_fourth fourth]
  · have search := hunting_of hunt unbroken
    refine ⟨fun good first => ?_, fun good second => ?_, fun second => ?_, fun failed b hb => ?_⟩
    · rw [exec_goodInHunt search good, goodInHunt_first first]
      rfl
    · rw [exec_goodInHunt search good, goodInHunt_second second]
      rfl
    · rw [exec_syncReached search second, goodInHunt_second second]
      rfl
    · have further : b = s.trx.boundary + 1 := Fin.ext hb
      rw [exec_failedInHunt search failed, further]
      rfl

/-! ### ENUM -/

/-- An unassigned part takes the address it is offered (R140). -/
theorem takeEnum_assigned (unassigned : s.address = none) (low : 1 ≤ next.toNat) (high : next.toNat ≤ 30) :
    takeEnum next s = ({ s with address := some next }).send (.enumNext (BitVec.ofNat 8 (next.toNat + 1))) := by
  have incremented : BitVec.ofNat 8 (next.toNat + 1) = next + 1 := BitVec.eq_of_toNat_eq (by simp)
  rw [takeEnum, if_pos ⟨unassigned, low, high⟩, incremented]

theorem takeEnum_unchanged (h : s.address ≠ none ∨ next.toNat = 0 ∨ 31 ≤ next.toNat) : takeEnum next s = s.send .unchanged := by
  refine if_neg fun ⟨unassigned, low, high⟩ => ?_
  rcases h with assigned | zero | above
  · exact assigned unassigned
  · omega
  · omega

/-- Settles O35, by the part's address and the next address offered. -/
theorem enumAssignsTheAddress : Obligations.EnumAssignsTheAddress := by
  refine fun next s sync => ⟨fun unassigned low high => ?_, fun other => ?_⟩
  · exact (onCell_sync sync).trans (congrArg _ (takeEnum_assigned (s := s.goodCell) unassigned low high))
  · exact (onCell_sync sync).trans (congrArg _ (takeEnum_unchanged (s := s.goodCell) other))

end Sys2Proof.Proofs
end

section
/-! PROOFS. The trunk receiver (spec 8): the signal, breaks and the chain break (R131, R135, R136). -/

namespace Sys2Proof.Proofs

open Sys2Proof.Machine Sys2Proof.Claims Sys2Proof.Safety

variable {s : State} {b : Break}

/-! ### When LINK_RESYNC is due -/

theorem resyncDue_unbroken (h : s.trx.brk = none) : resyncDue s = decide (s.trx.link = .sync) := by rw [resyncDue, h]

theorem resyncDue_break (h : s.trx.brk = some b) : resyncDue s = decide (b.fromSync = true ∧ b.long = false) := by
  rw [resyncDue, h, Bool.decide_and, Bool.decide_eq_true, Bool.decide_eq_false]

theorem raiseIf_decide (p : Prop) [Decidable p] (c : Condition) (s : State) : s.raiseIf (decide p) c
    = { s with conditions := if p then s.conditions ||| c.mask else s.conditions } := by
  by_cases h : p
  · rw [decide_eq_true h, if_pos h]
    rfl
  · rw [decide_eq_false h, if_neg h]
    rfl

/-! ### The signal -/

/-- The signal is lost with no break in progress: the cell partly sent is cut short (R131). -/
theorem loseSignal_unbroken (h : s.trx.brk = none) : loseSignal s = { s with
    trx := { s.trx with link := .down }, fwd := ⟨.fill, true⟩
    conditions := if s.trx.link = .sync then s.conditions ||| BitVec.twoPow 12 1 else s.conditions } := by
  have kept : ({ s.trx with link := .down, brk := none } : Trx) = { s.trx with link := .down } := by rw [← h]
  rw [loseSignal, resyncDue_unbroken h, raiseIf_decide, h, kept]
  rfl

/-- The signal is lost in a break, which is over (R131, R135). -/
theorem loseSignal_break (h : s.trx.brk = some b) : loseSignal s = { s with
    trx := { s.trx with link := .down, brk := none }, fwd := ⟨.fill, false⟩
    conditions := if b.fromSync = true ∧ b.long = false then s.conditions ||| BitVec.twoPow 12 1 else s.conditions } := by
  rw [loseSignal, resyncDue_break h, raiseIf_decide, h]
  rfl

theorem exec_lossOfSignal (up : s.trx.link ≠ .down) : exec .lossOfSignal s = .next (loseSignal s) := congrArg _ (if_neg up)

theorem exec_signalReceived (down : s.trx.link = .down) : exec .signalReceived s = .next ((enterHunt s).send .fill) :=
  congrArg _ (if_pos down)

/-! ### Breaks -/

theorem exec_breakStart (h : s.trx.brk = none) : exec .breakStart s = .next (beginBreak s) :=
  congrArg _ (if_neg (by rw [h]; decide))

theorem exec_breakEnd (h : s.trx.brk = some b) : exec .breakEnd s = .next (endBreak s) := congrArg _ (if_pos (by rw [h]; rfl))

theorem endBreak_eq (h : s.trx.brk = some b) : endBreak s = { s with
    trx := { s.trx with link := .hunt, goodRun := 0, brk := none, boundary := Config.trialBoundary s.freeCount }
    fwd := ⟨.fill, false⟩, freeCount := s.freeCount + 1
    conditions := if b.fromSync = true ∧ b.long = false then s.conditions ||| BitVec.twoPow 12 1 else s.conditions } := by
  rw [endBreak, resyncDue_break h, raiseIf_decide]
  rfl

/-! ### The chain break -/

/-- A break that reaches 10 µs (R136). -/
theorem chainBreakStep_short (h : s.trx.brk = some b) (short : b.long = false) : chainBreakStep s = takeChainBreak b s := by
  simp [chainBreakStep, h, short]

theorem chainBreakStep_long (h : s.trx.brk = some b) (long : b.long = true) : chainBreakStep s = s := by
  simp [chainBreakStep, h, long]

/-- The 10 µs of a break that no command began (log 15). -/
theorem chainBreakStep_unbroken (h : s.trx.brk = none) :
    chainBreakStep s = takeChainBreak ⟨decide (s.trx.link = .sync), false⟩ (beginBreak s) := by
  rw [chainBreakStep, h]
  rfl

/-- Settles O37, by the event and the break in progress. -/
theorem signalAndBreaks : Obligations.SignalAndBreaks := by
  intro s
  refine ⟨fun up unbroken => ?_, fun up b broken => ?_, fun down => ⟨_, _, exec_signalReceived down⟩,
    exec_breakStart, fun b broken => ⟨Config.trialBoundary s.freeCount, s.freeCount + 1, ?_⟩,
    fun b broken short => congrArg _ (chainBreakStep_short broken short),
    fun unbroken => congrArg _ (chainBreakStep_unbroken unbroken), fun b broken long => congrArg _ (chainBreakStep_long broken long)⟩
  · rw [exec_lossOfSignal up, loseSignal_unbroken unbroken]
  · rw [exec_lossOfSignal up, loseSignal_break broken]
  · rw [exec_breakEnd broken, endBreak_eq broken]

end Sys2Proof.Proofs
end

section
/-! PROOFS. The requests to the survey unit (R145, R147). -/

namespace Sys2Proof.Proofs

open Sys2Proof.Machine Sys2Proof.Claims Sys2Proof.Safety

variable {s : State} {n sb : Byte} {src : Fin 16}

/-! ### SURVEY -/

theorem surveyAnswer_range (h : n.toNat = 0) : surveyAnswer n s = refuse s .range := by
  rw [surveyAnswer, readRange_none (Or.inl (by omega))]

theorem surveyAnswer_counted (h : n.toNat ≠ 0) : surveyAnswer n s = if s.survey.state = .running then refuse s .busy
    else ⟨{ s with survey := ⟨.running, n.toNat, Vector.replicate 16 ⟨0, 0, none⟩⟩ }, .done, [], none⟩ := by
  have read : readRange 1 255 n.toNat = some n.toNat := readRange_eq_some.2 ⟨by omega, rfl⟩
  rw [surveyAnswer, read]
  rfl

/-- Settles O33, by the count of frames and the state of the survey. -/
theorem surveyStarts : Obligations.SurveyStarts := by
  intro q n s
  refine ⟨fun heard => onRequest_heard heard rfl, fun hears => ⟨fun zero => ?_, fun counted running => ?_, fun counted idle => ?_⟩⟩
  · exact onRequest_refused hears (surveyAnswer_range zero)
  · exact onRequest_refused hears ((surveyAnswer_counted counted).trans (if_pos running))
  · exact onRequest_hears hears ((surveyAnswer_counted counted).trans (if_neg idle))

/-! ### SURVEYREAD -/

theorem surveyreadAnswer_range (h : 16 ≤ sb.toNat) : surveyreadAnswer sb s = refuse s .range := by
  rw [surveyreadAnswer, readIndex_none h]

theorem surveyreadAnswer_of (h : Names sb src) : surveyreadAnswer sb s = if s.survey.state = .running then refuse s .busy
    else ⟨s, .done, surveyBytes (tget s.survey.records src), none⟩ := by
  rw [surveyreadAnswer, readIndex_of h]

/-- The bytes of a survey record, by their places (§11.6). -/
theorem surveyBytes_reports (r : SurveyRecord) :
    (surveyBytes r).length = 10 ∧ halfAt (surveyBytes r) 0 = BitVec.ofNat 16 r.pics
    ∧ halfAt (surveyBytes r) 2 = BitVec.ofNat 16 r.opens ∧ (r.last = none → byteAt (surveyBytes r) 4 = 0#8)
    ∧ ∀ f, r.last = some f → byteAt (surveyBytes r) 4 = 1#8 ∧ halfAt (surveyBytes r) 5 = BitVec.ofNat 16 f.width
        ∧ halfAt (surveyBytes r) 7 = BitVec.ofNat 16 f.height ∧ byteAt (surveyBytes r) 9 = f.tag := by
  obtain ⟨pics, opens, last⟩ := r
  cases last with
  | none => exact ⟨rfl, halfAt_of_drop rfl, halfAt_of_drop rfl, fun _ => rfl, nofun⟩
  | some g =>
    refine ⟨rfl, halfAt_of_drop rfl, halfAt_of_drop rfl, nofun, fun f hf => ?_⟩
    cases hf
    exact ⟨rfl, halfAt_of_drop rfl, halfAt_of_drop rfl, rfl⟩

/-- Settles O34, by the source that is named and the state of the survey. -/
theorem surveyreadReportsARecord : Obligations.SurveyreadReportsARecord := by
  intro q sb s
  refine ⟨fun heard => onRequest_heard heard rfl, fun hears => ⟨fun high => ?_, fun low running => ?_, ?_⟩⟩
  · exact onRequest_refused hears (surveyreadAnswer_range high)
  · have named : Names sb (⟨sb.toNat, low⟩ : Fin 16) := rfl
    exact onRequest_refused hears ((surveyreadAnswer_of named).trans (if_pos running))
  · rintro src named idle r rfl
    exact ⟨_, onRequest_hears hears ((surveyreadAnswer_of (s := s.goodCell) named).trans (if_neg idle)), surveyBytes_reports _⟩

end Sys2Proof.Proofs
end

section
/-! PROOFS. The house clock (spec 9): TIMEBASE, and the evaluation of the cue entries (R150 to R154). -/

namespace Sys2Proof.Proofs

open Sys2Proof.Machine Sys2Proof.Claims Sys2Proof.Safety

variable {s v w : State} {t : Clock} {x : Cue} {i : Fin 16}

/-! ### The time -/

/-- The fields of a TIMEBASE are in range (R150). -/
abbrev TimeValid (wd h m sec f : Byte) : Prop :=
  wd.toNat ≤ 6 ∧ h.toNat ≤ 23 ∧ m.toNat ≤ 59 ∧ sec.toNat ≤ 59 ∧ f.toNat ≤ 59

/-- A time is read just where it is valid (R150). -/
theorem readClock_eq_some {wd h m sec f : Byte} : readClock wd h m sec f = some t
    ↔ TimeValid wd h m sec f ∧ t = ⟨wd.toNat, h.toNat, m.toNat, sec.toNat, f.toNat⟩ := by
  simp only [readClock, Option.bind_eq_bind, Option.bind_eq_some_iff, readRange_eq_some, Option.some.injEq]
  constructor
  · rintro ⟨_, ⟨hwd, rfl⟩, _, ⟨hh, rfl⟩, _, ⟨hm, rfl⟩, _, ⟨hsec, rfl⟩, _, ⟨hf, rfl⟩, rfl⟩
    exact ⟨⟨hwd.2, hh.2, hm.2, hsec.2, hf.2⟩, rfl⟩
  · rintro ⟨⟨hwd, hh, hm, hsec, hf⟩, rfl⟩
    exact ⟨_, ⟨⟨Nat.zero_le _, hwd⟩, rfl⟩, _, ⟨⟨Nat.zero_le _, hh⟩, rfl⟩, _, ⟨⟨Nat.zero_le _, hm⟩, rfl⟩,
      _, ⟨⟨Nat.zero_le _, hsec⟩, rfl⟩, _, ⟨⟨Nat.zero_le _, hf⟩, rfl⟩, rfl⟩

theorem takeTimebase_invalid {wd h m sec f : Byte} (bad : ¬ TimeValid wd h m sec f) (s : State) :
    takeTimebase wd h m sec f s = s := by
  have unread : readClock wd h m sec f = none := Option.eq_none_iff_forall_ne_some.2 fun _ read => bad (readClock_eq_some.1 read).1
  rw [takeTimebase, unread]

theorem takeTimebase_valid {wd h m sec f : Byte} (valid : TimeValid wd h m sec f)
    (ht : t = ⟨wd.toNat, h.toNat, m.toNat, sec.toNat, f.toNat⟩) (s : State) : takeTimebase wd h m sec f s = setClock t s := by
  rw [takeTimebase, readClock_eq_some.2 ⟨valid, ht⟩]

/-! ### One entry against a clock -/

theorem fieldMatches_iff {field : Option Nat} {value : Nat} : fieldMatches field value = true ↔ ∀ n ∈ field, n = value := by
  cases field <;> simp [fieldMatches]

theorem matchesClock_iff : x.matchesClock t = true ↔ Matches x t := by
  simp only [Cue.matchesClock, Bool.and_eq_true, fieldMatches_iff, and_assoc]

theorem matchesClock_eq_false : x.matchesClock t = false ↔ ¬ Matches x t := by
  rw [← matchesClock_iff, Bool.not_eq_true]

/-- Entry `i` fires: it is in use, it matches, and its matching flag is clear (R152). -/
def firesAt (t : Clock) (s : State) (i : Fin 16) : Bool := (s.cue i).any fun x => x.matchesClock t && !x.matching

theorem firesAt_iff : firesAt t s i = true ↔ ∃ x, s.cue i = some x ∧ Matches x t ∧ x.matching = false := by
  simp only [firesAt, Option.any_eq_true, Bool.and_eq_true, matchesClock_iff, Bool.not_eq_true']

theorem firesAt_of (h : s.cue i = some x) : firesAt t s i = (x.matchesClock t && !x.matching) := by
  rw [firesAt, h, Option.any_some]

theorem firesAt_empty (h : s.cue i = none) : firesAt t s i = false := by
  rw [firesAt, h, Option.any_none]

/-- An entry that fires in mode ONCE becomes empty (R152). -/
theorem evaluated_once (h : s.cue i = some x) (fires : firesAt t s i = true) (once : x.mode = .once) : x.evaluated t = none := by
  rw [firesAt_of h] at fires
  rw [Cue.evaluated, fires, once]
  rfl

/-- Any other entry keeps whether it matched (R152). -/
theorem evaluated_kept (h : s.cue i = some x) (stays : firesAt t s i = false ∨ x.mode = .repeating) :
    x.evaluated t = some { x with matching := x.matchesClock t } := by
  rw [firesAt_of h] at stays
  refine if_neg ?_
  rcases stays with still | repeating
  · rw [still, Bool.false_and]
    exact Bool.false_ne_true
  · rw [repeating, decide_eq_false nofun, Bool.and_false]
    exact Bool.false_ne_true

/-! ### Actions

An action reads and writes the outputs, and may set a condition. Evaluating the entries is taking their actions, while the table of
the entries and CUE_FIRED stand apart: `evaluatedOnto` puts the two together. -/

/-- The state after a cue's action (R153, R154), in the words of the statements. -/
def taken (a : CueAction) (v : State) : State :=
  match a with
  | .recall n mask => recalled mask n v
  | .mode d mask => moded mask d v

/-- The state after the action of entry `c` of `s`, if it is in use. -/
def takenAt (s v : State) (c : Fin 16) : State :=
  match s.cue c with
  | some x => taken x.action v
  | none => v

/-- State `w` with the outputs and the conditions of `v`, the cue entries `cs`, and CUE_FIRED set if an entry fired. -/
def evaluatedOnto (w : State) (fired : Bool) (cs : Vector (Option Cue) 16) (v : State) : State :=
  { w with
    cues := cs, outputs := v.outputs
    conditions := v.conditions ||| if fired = true then BitVec.twoPow 12 10 else 0#12 }

theorem takeAction_eq (a : CueAction) (s : State) : takeAction a s = taken a s :=
  match a with
  | .recall n mask => forOutputs_recall mask n s
  | .mode d mask => forOutputs_setMode mask d s

/-- EDIT_OVERRIDDEN and CUE_FIRED may be set in either order. -/
theorem or_after_override (overridden : Prop) [Decidable overridden] (c b e : BitVec 12) :
    (if overridden then c ||| e ||| b else c ||| e) = (if overridden then c ||| b else c) ||| e := by
  split
  · rw [BitVec.or_assoc, BitVec.or_comm e, BitVec.or_assoc]
  · rfl

/-- An action acts on the outputs and the conditions alone. -/
theorem taken_onto (a : CueAction) (fired : Bool) (cs : Vector (Option Cue) 16) :
    taken a (evaluatedOnto w fired cs v) = evaluatedOnto w fired cs (taken a v) :=
  match a with
  | .recall n mask => congrArg (fun c : BitVec 12 => { evaluatedOnto w fired cs (recalled mask n v) with conditions := c })
      (or_after_override _ _ _ _)
  | .mode _ _ => rfl

/-- CUE_FIRED set once more. -/
theorem raise_onto (fired : Bool) (cs : Vector (Option Cue) 16) :
    (evaluatedOnto w fired cs v).raise .cueFired = evaluatedOnto w true cs v := by
  have conditions (c : BitVec 12) : (c ||| if fired = true then BitVec.twoPow 12 10 else 0#12) ||| BitVec.twoPow 12 10
      = c ||| BitVec.twoPow 12 10 := by
    cases fired <;> simp [BitVec.or_assoc]
  exact congrArg (fun c : BitVec 12 => { evaluatedOnto w true cs v with conditions := c }) (conditions v.conditions)

/-! ### All entries -/

/-- The entry after an evaluation (R152). -/
def evaluatedEntry (t : Clock) (s : State) (i : Fin 16) : Option Cue := (s.cue i).bind fun x => x.evaluated t

/-- The evaluation of an entry that stands as it stood in `s`. -/
theorem evaluateCue_onto {fired : Bool} {cs : Vector (Option Cue) 16} (same : tget cs i = s.cue i) :
    evaluateCue t (evaluatedOnto w fired cs v) i = evaluatedOnto w (fired || firesAt t s i) (tset cs i (evaluatedEntry t s i))
      (if firesAt t s i then takenAt s v i else v) := by
  have entry : (evaluatedOnto w fired cs v).cue i = s.cue i := same
  cases h : s.cue i with
  | none =>
    have unwritten : tset cs i none = cs := by rw [← h, ← same, tset_tget]
    rw [evaluateCue, entry, firesAt_empty h, evaluatedEntry, h, Option.bind_none, unwritten, Bool.or_false]
    rfl
  | some x =>
    have fires := firesAt_of (t := t) h
    simp only [evaluateCue, entry, h, evaluatedEntry, takenAt, Option.bind_some, takeAction_eq, taken_onto, raise_onto, ← fires]
    cases firesAt t s i
    · rw [Bool.or_false]
      rfl
    · rw [Bool.or_true]
      rfl

/-- Entries evaluated one after another: the actions of those that fire, in that order, and each entry by itself. -/
theorem foldl_evaluateCue (l : List (Fin 16)) (nodup : l.Nodup) {fired : Bool} {cs : Vector (Option Cue) 16}
    (same : ∀ i ∈ l, tget cs i = s.cue i) : l.foldl (evaluateCue t) (evaluatedOnto w fired cs v)
      = evaluatedOnto w (fired || l.any (firesAt t s)) (l.foldl (fun cs i => tset cs i (evaluatedEntry t s i)) cs)
          ((l.filter (firesAt t s)).foldl (takenAt s) v) := by
  induction l generalizing fired cs v with
  | nil => rw [List.any_nil, Bool.or_false]; rfl
  | cons i rest ih =>
    obtain ⟨fresh, nodup⟩ := List.nodup_cons.1 nodup
    have others : ∀ j ∈ rest, tget (tset cs i (evaluatedEntry t s i)) j = s.cue j := fun j hj => by
      rw [tget_tset, if_neg (ne_of_mem_of_not_mem hj fresh).symm, same j (List.mem_cons_of_mem i hj)]
    rw [List.foldl_cons, evaluateCue_onto (same i List.mem_cons_self), ih nodup others, List.any_cons, Bool.or_assoc,
      List.filter_cons]
    cases firesAt t s i <;> rfl

/-- A table whose entries are written one after another. -/
theorem tget_foldl_tset {α : Type} {n : Nat} (f : Fin n → α) (l : List (Fin n)) (cs : Vector α n) (j : Fin n) :
    tget (l.foldl (fun cs i => tset cs i (f i)) cs) j = if j ∈ l then f j else tget cs j := by
  induction l generalizing cs with
  | nil => rfl
  | cons i rest ih => grind [tget_tset]

/-- What a valid TIMEBASE leaves (R150 to R154). -/
def clocked (t : Clock) (s : State) : State :=
  evaluatedOnto { s with clock := some t } ((List.finRange 16).any (firesAt t s)) (Vector.ofFn (evaluatedEntry t s))
    (((List.finRange 16).filter (firesAt t s)).foldl (takenAt s) s)

theorem setClock_goodCell (t : Clock) (s : State) : setClock t s.goodCell = (clocked t s).goodCell := by
  have start : { s.goodCell with clock := some t } = evaluatedOnto { s.goodCell with clock := some t } false s.cues s := by
    simp [evaluatedOnto]
  have entries : (List.finRange 16).foldl (fun cs i => tset cs i (evaluatedEntry t s i)) s.cues
      = Vector.ofFn (evaluatedEntry t s) := table_ext fun i => by
    rw [tget_foldl_tset, if_pos (List.mem_finRange i), tget_ofFn]
  rw [setClock, start, foldl_evaluateCue _ (List.nodup_finRange 16) fun _ _ => rfl, entries, Bool.false_or]
  rfl

theorem clocked_cue (t : Clock) (s : State) (i : Fin 16) : (clocked t s).cue i = evaluatedEntry t s i := tget_ofFn _ i

theorem clocked_conditions (t : Clock) (s : State) : (clocked t s).conditions
    = (((List.finRange 16).filter (firesAt t s)).foldl (takenAt s) s).conditions
      ||| (if ∃ c, firesAt t s c = true then BitVec.twoPow 12 10 else 0#12) := by
  have fired : (List.finRange 16).any (firesAt t s) = true ↔ ∃ c, firesAt t s c = true := by simp
  simp only [clocked, evaluatedOnto, fired]

/-- Settles O28: an entry's evaluation is its action and its own new value, and the actions leave the entries as they are. -/
theorem timebaseEvaluatesTheCues : Obligations.TimebaseEvaluatesTheCues := by
  intro wd h m sec f s sync
  refine ⟨fun bad => onForwarded_sync sync (takeTimebase_invalid bad _), fun valid t fires ht fires_iff => ?_⟩
  have fires_eq : fires = firesAt t s := funext fun c => Bool.eq_iff_iff.2 ((fires_iff c).trans firesAt_iff.symm)
  subst fires_eq
  have run := (takeTimebase_valid valid ht s.goodCell).trans (setClock_goodCell t s)
  refine ⟨_, onForwarded_sync sync run, rfl, clocked_conditions t s, fun c => ⟨fun empty => ?_, fun x used => ?_⟩⟩
  · exact (clocked_cue t s c).trans (by rw [evaluatedEntry, empty, Option.bind_none])
  · have entry : (passedOn (clocked t s)).cue c = x.evaluated t :=
      (clocked_cue t s c).trans (by rw [evaluatedEntry, used, Option.bind_some])
    refine ⟨fun fires once => entry.trans (evaluated_once used fires once), fun stays => ⟨fun matched => ?_, fun unmatched => ?_⟩⟩
    · rw [entry, evaluated_kept used stays, matchesClock_iff.2 matched]
    · rw [entry, evaluated_kept used stays, matchesClock_eq_false.2 unmatched]

end Sys2Proof.Proofs
end

section
/-! PROOFS. CUESET and CUEDROP (spec 9): the reading of the entry that a CUESET carries (R151), and what they answer (R156, R157). -/

namespace Sys2Proof.Proofs

open Sys2Proof.Machine Sys2Proof.Claims Sys2Proof.Safety

variable {s : State} {raw : RawCue} {x : Cue} {cb : Byte} {c : Fin 16}

/-! ### The entry that is read -/

/-- A match field is read where it is absent or in range, and an absent one is none (R151). -/
theorem readOptional_range_eq_some {present : Bool} {hi n : Nat} {field : Option Nat} :
    readOptional present (readRange 0 hi n) = some field
      ↔ (present = true → n ≤ hi) ∧ field = if present = true then some n else none := by
  rw [readOptional_eq_some]
  cases present <;> simp [readRange_eq_some, and_assoc]

theorem readCueMode_eq_some {b : Byte} {mode : CueMode} :
    readCueMode b = some mode ↔ b.toNat ≤ 1 ∧ mode = if b.toNat = 0 then .once else .repeating := by
  unfold readCueMode
  split
  next zero => simp [zero, eq_comm]
  next one => simp [one, eq_comm]
  next other zero one => exact ⟨nofun, fun ⟨low, _⟩ => ((Nat.le_one_iff_eq_zero_or_eq_one.1 low).elim zero one).elim⟩

theorem readMode_eq_some {b : Byte} {d : OutputMode} :
    readMode b = some d ↔ b.toNat ≤ 1 ∧ (d = .showing ↔ b.toNat = 1) := by
  unfold readMode
  split
  next zero => cases d <;> simp [zero]
  next one => cases d <;> simp [one]
  next other zero one => exact ⟨nofun, fun ⟨low, _⟩ => ((Nat.le_one_iff_eq_zero_or_eq_one.1 low).elim zero one).elim⟩

theorem readMask_eq_some {b : Byte} {mask : BitVec 4} : readMask b = some mask ↔ mask.toNat = b.toNat := by
  by_cases low : b.toNat < 16
  · rw [readMask_of low, Option.some.injEq, ← BitVec.toNat_inj, BitVec.toNat_setWidth, Nat.mod_eq_of_lt low, eq_comm]
  · rw [readMask_none (Nat.not_lt.1 low)]
    exact ⟨nofun, fun h => absurd (h ▸ mask.isLt) low⟩

/-- What the action, argument and mask bytes of a CUESET say is done (R151, R177). -/
def ActionAs (raw : RawCue) : CueAction → Prop
  | .recall n mask => raw.action.toNat = 0 ∧ n.val = raw.argument.toNat ∧ mask.toNat = raw.mask.toNat
  | .mode d mask => raw.action.toNat = 1 ∧ (d = .showing ↔ raw.argument.toNat = 1) ∧ mask.toNat = raw.mask.toNat

/-- The action, argument and mask bytes of a CUESET are in range (R151, R177). -/
abbrev ActionInRange (raw : RawCue) : Prop :=
  ((raw.action.toNat = 0 ∧ raw.argument.toNat ≤ 7) ∨ (raw.action.toNat = 1 ∧ raw.argument.toNat ≤ 1)) ∧ raw.mask.toNat < 16

theorem readCueAction_eq_some {a : CueAction} :
    readCueAction raw.action raw.argument raw.mask = some a ↔ ActionInRange raw ∧ ActionAs raw a := by
  simp only [readCueAction, Option.bind_eq_bind, Option.bind_eq_some_iff, readMask_eq_some]
  split
  next zero =>
    cases a with
    | mode d mask => simp [ActionAs, zero]
    | _ n mask =>
      have preset := n.isLt
      have masked := mask.isLt
      simp only [Option.map_eq_some_iff, readIndex_eq_some, CueAction.recall.injEq, ↓existsAndEq, true_and, exists_eq_right_right,
        ActionAs, zero]
      omega
  next one =>
    cases a with
    | mode d mask =>
      have masked := mask.isLt
      simp only [Option.map_eq_some_iff, readMode_eq_some, CueAction.mode.injEq, ↓existsAndEq, true_and, exists_eq_right_right,
        ActionAs, one]
      grind
    | _ n mask => simp [ActionAs, one]
  next other zero one => exact ⟨by simp, fun ⟨⟨named, _⟩, _⟩ => (named.elim (fun h => zero h.1) fun h => one h.1).elim⟩

/-- What R151 keeps of a CUESET, its action by `ActionAs`. -/
theorem cueKeptAs_iff : CueKeptAs raw x ↔
    x.weekday = (if raw.presence.getLsbD 0 then some raw.weekday.toNat else none)
      ∧ x.hour = (if raw.presence.getLsbD 1 then some raw.hour.toNat else none)
      ∧ x.minute = (if raw.presence.getLsbD 2 then some raw.minute.toNat else none)
      ∧ x.second = (if raw.presence.getLsbD 3 then some raw.second.toNat else none)
      ∧ x.frame = (if raw.presence.getLsbD 4 then some raw.frame.toNat else none)
      ∧ x.mode = (if raw.mode.toNat = 0 then .once else .repeating) ∧ ActionAs raw x.action ∧ x.matching = false := by
  obtain ⟨weekday, hour, minute, second, frame, mode, action, matching⟩ := x
  cases action <;> exact Iff.rfl

/-- The fields read one after another, each with its range. -/
theorem readCue_fields : readCue raw = some x ↔
    readOptional (raw.presence.getLsbD 0) (readRange 0 6 raw.weekday.toNat) = some x.weekday
      ∧ readOptional (raw.presence.getLsbD 1) (readRange 0 23 raw.hour.toNat) = some x.hour
      ∧ readOptional (raw.presence.getLsbD 2) (readRange 0 59 raw.minute.toNat) = some x.minute
      ∧ readOptional (raw.presence.getLsbD 3) (readRange 0 59 raw.second.toNat) = some x.second
      ∧ readOptional (raw.presence.getLsbD 4) (readRange 0 59 raw.frame.toNat) = some x.frame
      ∧ readCueMode raw.mode = some x.mode ∧ readCueAction raw.action raw.argument raw.mask = some x.action
      ∧ x.matching = false := by
  obtain ⟨weekday, hour, minute, second, frame, mode, action, matching⟩ := x
  simp only [readCue, Option.bind_eq_bind, Option.bind_eq_some_iff, Option.some.injEq, Cue.mk.injEq]
  constructor
  · rintro ⟨_, hw, _, hh, _, hm, _, hs, _, hf, _, hmode, _, ha, rfl, rfl, rfl, rfl, rfl, rfl, rfl, rfl⟩
    exact ⟨hw, hh, hm, hs, hf, hmode, ha, rfl⟩
  · rintro ⟨hw, hh, hm, hs, hf, hmode, ha, rfl⟩
    exact ⟨_, hw, _, hh, _, hm, _, hs, _, hf, _, hmode, _, ha, rfl, rfl, rfl, rfl, rfl, rfl, rfl, rfl⟩

/-- A CUESET is read exactly when its fields are in range, and then as R151 says. -/
theorem readCue_eq_some : readCue raw = some x ↔ CueInRange raw ∧ CueKeptAs raw x := by
  simp only [readCue_fields, cueKeptAs_iff, readOptional_range_eq_some, readCueMode_eq_some, readCueAction_eq_some]
  constructor
  · rintro ⟨⟨hw, rw'⟩, ⟨hh, rh⟩, ⟨hm, rm⟩, ⟨hs, rs⟩, ⟨hf, rf⟩, ⟨hmode, rmode⟩,
      ⟨⟨ha, hmask⟩, ra⟩, clear⟩
    exact ⟨⟨hw, hh, hm, hs, hf, hmode, ha, hmask⟩, rw', rh, rm, rs, rf, rmode, ra, clear⟩
  · rintro ⟨⟨hw, hh, hm, hs, hf, hmode, ha, hmask⟩, rw', rh, rm, rs, rf, rmode, ra, clear⟩
    exact ⟨⟨hw, rw'⟩, ⟨hh, rh⟩, ⟨hm, rm⟩, ⟨hs, rs⟩, ⟨hf, rf⟩, ⟨hmode, rmode⟩, ⟨⟨ha, hmask⟩, ra⟩, clear⟩

/-- Action bytes in range name an action. -/
theorem exists_actionAs (h : ActionInRange raw) : ∃ a, ActionAs raw a := by
  obtain ⟨⟨recalls, preset⟩ | ⟨sets, -⟩, masked⟩ := h
  · exact ⟨.recall ⟨raw.argument.toNat, Nat.lt_succ_of_le preset⟩ ⟨⟨raw.mask.toNat, masked⟩⟩, recalls, rfl, rfl⟩
  · exact ⟨.mode (if raw.argument.toNat = 1 then .showing else .dark) ⟨⟨raw.mask.toNat, masked⟩⟩, sets, by simp, rfl⟩

theorem exists_readCue (h : CueInRange raw) : ∃ x, readCue raw = some x := by
  have ⟨_, _, _, _, _, _, action, mask⟩ := h
  obtain ⟨a, ha⟩ := exists_actionAs ⟨action, mask⟩
  exact ⟨⟨_, _, _, _, _, _, a, _⟩, readCue_eq_some.2 ⟨h, cueKeptAs_iff.2 ⟨rfl, rfl, rfl, rfl, rfl, rfl, ha, rfl⟩⟩⟩

theorem readCue_none (h : ¬ CueInRange raw) : readCue raw = none :=
  Option.eq_none_iff_forall_ne_some.2 fun _ read => h (readCue_eq_some.1 read).1

/-! ### The answers -/

/-- The mark of an entry in use. -/
theorem flagByte_isSome {α : Type} (entry : Option α) [Decidable (entry = none)] :
    flagByte entry.isSome = if entry = none then 0#8 else 1#8 := by
  cases entry <;> simp [flagByte]

/-- The mark of an entry that matches the clock (§11.6). -/
theorem matchByte_of {clock : Option Clock} {yes : Byte} (h : clock = none ∧ yes = 255#8
      ∨ ∃ t, clock = some t ∧ (Matches x t ∧ yes = 1#8 ∨ ¬ Matches x t ∧ yes = 0#8)) : matchByte x clock = yes := by
  obtain ⟨rfl, rfl⟩ | ⟨t, rfl, ⟨matched, rfl⟩ | ⟨unmatched, rfl⟩⟩ := h
  · rfl
  · exact congrArg flagByte (matchesClock_iff.2 matched)
  · exact congrArg flagByte (matchesClock_eq_false.2 unmatched)

theorem cuesetAnswer_range (h : 16 ≤ cb.toNat ∨ ¬ CueInRange raw) (s : State) : cuesetAnswer cb raw s = refuse s .range := by
  rcases h with high | harmed
  · rw [cuesetAnswer, readIndex_none high]
  · rw [cuesetAnswer, readCue_none harmed]
    cases readIndex 16 cb <;> rfl

theorem cuesetAnswer_of (named : Names cb c) (read : readCue raw = some x) (s : State) : cuesetAnswer cb raw s
    = ⟨s.setCue c (some x), .done, [if s.cue c = none then 0#8 else 1#8, matchByte x s.clock], none⟩ := by
  rw [cuesetAnswer, readIndex_of named, read, ← flagByte_isSome]

theorem cuedropAnswer_range (high : 16 ≤ cb.toNat) (s : State) : cuedropAnswer cb s = refuse s .range := by
  rw [cuedropAnswer, readIndex_none high]

theorem cuedropAnswer_of (named : Names cb c) (s : State) : cuedropAnswer cb s
    = ⟨s.setCue c none, .done, [if s.cue c = none then 0#8 else 1#8], none⟩ := by
  rw [cuedropAnswer, readIndex_of named, ← flagByte_isSome]

/-- Settles O29: the faults are those of the entry's number and of the reading; an entry that is read is kept as it is read. -/
theorem cuesAreWrittenAndDropped : Obligations.CuesAreWrittenAndDropped := by
  intro q cb raw s
  refine ⟨fun fault => ?_, fun high => ?_, fun c named => ⟨fun inRange => ?_, fun hears => ?_, fun heard => ?_⟩⟩
  · exact ⟨fun hears => onEither_refused hears (cuesetAnswer_range fault _),
      fun heard => onEither_ignored heard (cuesetAnswer_range fault _)⟩
  · exact ⟨fun hears => onEither_refused hears (cuedropAnswer_range high _),
      fun heard => onEither_ignored heard (cuedropAnswer_range high _)⟩
  · obtain ⟨x, read⟩ := exists_readCue inRange
    have written := cuesetAnswer_of named read s.goodCell
    refine ⟨x, (readCue_eq_some.1 read).2, fun yes hyes hears => ?_, fun heard => onEither_heard heard written⟩
    rw [← matchByte_of hyes]
    exact onEither_hears hears written
  · exact onEither_hears hears (cuedropAnswer_of named _)
  · exact onEither_heard heard (cuedropAnswer_of named _)

end Sys2Proof.Proofs
end

section
/-! PROOFS. Requests and their replies (spec 10): what RQU's answer to a request can be (R161, R162), in one statement for every request,
and with it what a reply carries (R162, R165, R177) and what a refusal leaves; then IDENT, CLEAR and the requests of unknown code. -/

namespace Sys2Proof.Proofs

open Sys2Proof.Machine Sys2Proof.Claims

variable {c : Instr} {q : ReqHead} {code : Byte} {s : State} {a : Answer}

/-! ### What an answer can be -/

/-- What a unit answers in state `s`, but for RESTART: a refusal, which leaves the state and carries no result; NOTLIVE, which leaves it and
carries the genlock state; or a request carried out, its result within the 40 bytes and its indicator read after its effects (R161, R162,
R165). -/
inductive Answered (s : State) : Answer → Prop
  | refused {rc : ReplyCode} (empty : rc ≠ .notLive) : Answered s (refuse s rc)
  | notLive : Answered s ⟨s, .notLive, [s.rgu.genlock.number], none⟩
  | carried {u : State} {rc : ReplyCode} {result : List Byte} (effect : isRefusal rc = false) (fits : result.length ≤ 40) :
      Answered s ⟨u, rc, result, none⟩

/-- No unit sets the indicator of its reply but RESTART's. -/
theorem Answered.attention_none (h : Answered s a) : a.attention = none := by
  cases h <;> rfl

theorem Answered.result_fits (h : Answered s a) : a.result.length ≤ 40 := by
  cases h with
  | refused => exact Nat.zero_le 40
  | notLive => exact Nat.le_of_ble_eq_true rfl
  | carried _ fits => exact fits

/-- A result of a form that gives its length. -/
theorem Answered.brief {u : State} {rc : ReplyCode} {result : List Byte} (effect : isRefusal rc = false)
    (short : result.length.ble 40 = true) : Answered s ⟨u, rc, result, none⟩ := .carried effect (Nat.le_of_ble_eq_true short)

/-! ### The reports -/

theorem statusPage_fits {page : Nat} {result : List Byte} (h : statusPage s page = some result) : result.length ≤ 40 := by
  unfold statusPage at h
  split_ifs at h with zero store nine ten
  all_goals cases h
  · exact (statusSummary_reports s).1.le.trans (by decide)
  · exact (statusStore_reports s _).1.le.trans (by decide)
  · exact (statusGenlock_reports s).1.le.trans (by decide)
  · exact (statusLink_reports s).1.le.trans (by decide)

theorem statusAnswer_answered (page : Byte) (s : State) : Answered s (statusAnswer page s) := by
  unfold statusAnswer
  split
  · exact .refused nofun
  next read => exact .carried rfl (statusPage_fits read)

theorem clearAnswer_answered (mask : Half) (s : State) : Answered s (clearAnswer mask s) := .brief rfl rfl

theorem surveyAnswer_answered (frames : Byte) (s : State) : Answered s (surveyAnswer frames s) := by
  unfold surveyAnswer
  split
  · exact .refused nofun
  · split
    · exact .refused nofun
    · exact .brief rfl rfl

theorem surveyreadAnswer_answered (source : Byte) (s : State) : Answered s (surveyreadAnswer source s) := by
  unfold surveyreadAnswer
  split
  · exact .refused nofun
  · split
    · exact .refused nofun
    · exact .carried rfl ((surveyBytes_reports _).1.le.trans (by decide))

/-! ### The stores, the raster and genlock -/

theorem silenceAnswer_answered (hold : Byte) (loss : Half) (s : State) : Answered s (silenceAnswer hold loss s) := by
  unfold silenceAnswer
  split
  · split
    · exact .brief rfl rfl
    · exact .refused nofun
  · exact .refused nofun

theorem subscribeAnswer_answered (store source : Byte) (s : State) : Answered s (subscribeAnswer store source s) := by
  unfold subscribeAnswer
  split
  · split
    · exact .refused nofun
    · split
      · exact .refused nofun
      · exact .brief rfl rfl
  · exact .refused nofun

theorem releaseAnswer_answered (store : Byte) (s : State) : Answered s (releaseAnswer store s) := by
  unfold releaseAnswer
  split
  · exact .refused nofun
  · split
    · exact .refused nofun
    · split
      · exact .refused nofun
      · exact .brief rfl rfl

theorem rasterAnswer_answered (aw ah tw th : Half) (bg : Word) (s : State) : Answered s (rasterAnswer aw ah tw th bg s) := by
  unfold rasterAnswer
  split
  · exact .refused nofun
  · exact .brief rfl rfl

theorem genlockAnswer_answered (source : Byte) (s : State) : Answered s (genlockAnswer source s) := by
  unfold genlockAnswer
  split
  · exact .refused nofun
  · exact .brief rfl rfl
  · split
    · exact .brief rfl rfl
    · exact .notLive

/-! ### The layout unit -/

theorem outmodeAnswer_answered (mask mode : Byte) (s : State) : Answered s (outmodeAnswer mask mode s) := by
  unfold outmodeAnswer
  split
  · exact .brief rfl rfl
  · exact .refused nofun

theorem placeWindow_answered (o : Fin 4) (r : WindowRecord) (s : State) : Answered s (placeWindow o r s) := by
  unfold placeWindow
  simp only
  split
  · exact .brief rfl rfl
  · split
    · exact .refused nofun
    · exact .brief rfl rfl

theorem winsetAnswer_answered (output : Byte) (raw : RawWindow) (s : State) : Answered s (winsetAnswer output raw s) := by
  unfold winsetAnswer
  split
  · split
    · exact .refused nofun
    · split
      · exact .refused nofun
      · exact placeWindow_answered _ _ s
  · exact .refused nofun

theorem windropAnswer_answered (output window : Byte) (s : State) : Answered s (windropAnswer output window s) := by
  unfold windropAnswer
  split
  · split
    · exact .refused nofun
    · split
      · exact .refused nofun
      · exact .brief rfl rfl
  · exact .refused nofun

theorem winmoveAnswer_answered (output window target : Byte) (s : State) : Answered s (winmoveAnswer output window target s) := by
  unfold winmoveAnswer
  split
  · split
    · exact .refused nofun
    · split
      · exact .refused nofun
      · exact .brief rfl rfl
  · exact .refused nofun

theorem winreadAnswer_answered (output window bank : Byte) (s : State) : Answered s (winreadAnswer output window bank s) := by
  unfold winreadAnswer
  split
  · simp only
    split
    · exact .refused nofun
    · rw [windowBytes_eq]
      exact .brief rfl rfl
  · exact .refused nofun

theorem discardAnswer_answered (output : Byte) (s : State) : Answered s (discardAnswer output s) := by
  unfold discardAnswer
  split
  · exact .refused nofun
  · split
    · exact .refused nofun
    · exact .brief rfl rfl

theorem commitAnswer_answered (mask : Byte) (s : State) : Answered s (commitAnswer mask s) := by
  unfold commitAnswer
  split
  · exact .refused nofun
  · exact .brief (by split <;> rfl) rfl

theorem presaveAnswer_answered (output preset : Byte) (s : State) : Answered s (presaveAnswer output preset s) := by
  unfold presaveAnswer
  split
  · exact .brief rfl rfl
  · exact .refused nofun

theorem recallAnswer_answered (mask preset : Byte) (s : State) : Answered s (recallAnswer mask preset s) := by
  unfold recallAnswer
  split
  · split
    · exact .brief rfl rfl
    · split
      · exact .refused nofun
      · exact .brief rfl rfl
  · exact .refused nofun

/-! ### Takes and freezes -/

theorem takeResult_length (ended : Bool) (x : TransitionRecord) (duration : Nat) : (takeResult ended x duration).length = 7 := by
  cases x with
  | idle => rfl
  | running t =>
    rw [takeResult]
    cases t.fromContent <;> rfl

theorem takeAnswer_answered (output window kind : Byte) (value : Word) (style duration : Byte) (s : State) :
    Answered s (takeAnswer output window kind value style duration s) := by
  unfold takeAnswer
  split
  · split
    · exact .refused nofun
    · split
      · exact .refused nofun
      · exact .carried rfl ((takeResult_length _ _ _).le.trans (by decide))
  · exact .refused nofun

/-- A FREEZE answers what its action does, or by its checks. -/
theorem freezeChecked_answered {kindOk : Bool} {output window : Byte} {act : Fin 4 → Fin 8 → Fin 8 → Answer}
    (h : ∀ o w i, Answered s (act o w i)) : Answered s (freezeChecked kindOk output window s act) := by
  unfold freezeChecked
  split
  · split
    · exact .refused nofun
    · split
      · exact .refused nofun
      · split
        · exact .brief rfl rfl
        · exact h _ _ _
    · exact .refused nofun
  · exact .refused nofun

theorem freezeNowAnswer_answered (output window kind : Byte) (s : State) : Answered s (freezeNowAnswer output window kind s) := by
  refine freezeChecked_answered fun o w i => ?_
  unfold freezeNowOn
  split
  · exact .brief rfl rfl
  · exact .brief rfl rfl
  · exact .refused nofun

theorem freezeAtAnswer_answered (output window tag : Byte) (s : State) : Answered s (freezeAtAnswer output window tag s) :=
  freezeChecked_answered fun _ _ _ => .brief rfl rfl

theorem thawWindow_answered (o : Fin 4) (w : Fin 8) (s : State) : Answered s (thawWindow o w s) := by
  rw [thawWindow]
  cases s.freeze o w <;> exact .brief rfl rfl

theorem thawAnswer_answered (output window : Byte) (s : State) : Answered s (thawAnswer output window s) := by
  unfold thawAnswer
  split
  · exact thawWindow_answered _ _ s
  · exact .refused nofun

/-! ### Rotation lists and cues -/

theorem rotsetAnswer_answered (list count : Byte) (entries : List Byte) (dwell : Half) (style duration : Byte) (s : State) :
    Answered s (rotsetAnswer list count entries dwell style duration s) := by
  unfold rotsetAnswer
  split
  · exact .brief rfl rfl
  · exact .refused nofun

theorem cuesetAnswer_answered (entry : Byte) (raw : RawCue) (s : State) : Answered s (cuesetAnswer entry raw s) := by
  unfold cuesetAnswer
  split
  · exact .brief rfl rfl
  · exact .refused nofun

theorem cuedropAnswer_answered (entry : Byte) (s : State) : Answered s (cuedropAnswer entry s) := by
  unfold cuedropAnswer
  split
  · exact .brief rfl rfl
  · exact .refused nofun

/-! ### Every request -/

/-- The answer that a request of command `c` brings about in state `s`: RESTART's own, formed before the reset (R165, R173), or one of the
three kinds. -/
def AnswerOf (c : Instr) (s : State) (a : Answer) : Prop :=
  isRestart c = true ∧ a = restartAnswer s ∨ isRestart c = false ∧ Answered s a

/-- A request that this part hears is answered by its unit. -/
theorem onRequest_sent {own : State → Answer} {all : State → State} (hears : Hears q s) :
    onRequest q code own all s = .next ((own s.goodCell).sent q code) := by
  obtain ⟨sync, address, target⟩ := hears
  exact onRequest_own sync address target

/-- A request other than RESTART, by what its unit answers. -/
theorem answer_of_unit {own : State → Answer} {all : State → State} (hears : Hears q s) (other : isRestart c = false)
    (unit : ∀ u, Answered u (own u)) (run : exec c s = onRequest q code own all s) :
    ∃ a, exec c s = .next (a.sent q code) ∧ AnswerOf c s.goodCell a :=
  ⟨_, run.trans (onRequest_sent hears), .inr ⟨other, unit _⟩⟩

theorem answer_of_addressed {own : State → Answer} (hears : Hears q s) (other : isRestart c = false) (unit : ∀ u, Answered u (own u))
    (run : exec c s = onAddressed q code own s) : ∃ a, exec c s = .next (a.sent q code) ∧ AnswerOf c s.goodCell a :=
  answer_of_unit hears other unit run

theorem answer_of_either {own : State → Answer} (hears : Hears q s) (other : isRestart c = false) (unit : ∀ u, Answered u (own u))
    (run : exec c s = onEither q code own s) : ∃ a, exec c s = .next (a.sent q code) ∧ AnswerOf c s.goodCell a :=
  answer_of_unit hears other unit run

/-- IDENT and a request of unknown code, with the answers that the model writes out in place. -/
theorem exec_ident (q : ReqHead) (s : State) :
    exec (.ident q) s = onAddressed q 1 (fun u => ⟨u, .done, identResult u, none⟩) s := rfl

theorem exec_unknownRequest (q : ReqHead) (code : Byte) (s : State) :
    exec (.unknownRequest q code) s = onAddressed q code (fun u => refuse u .unknown) s := rfl

/-- Every request that this part hears is answered, and its answer is sent on. -/
theorem exec_answer (request : requestOf c = some (q, code)) (hears : Hears q s) :
    ∃ a, exec c s = .next (a.sent q code) ∧ AnswerOf c s.goodCell a := by
  cases c with cases request
  | ident => exact answer_of_addressed hears rfl (fun _ => .brief rfl rfl) (exec_ident _ _)
  | status => exact answer_of_addressed hears rfl (statusAnswer_answered _) rfl
  | clear => exact answer_of_either hears rfl (clearAnswer_answered _) rfl
  | raster => exact answer_of_either hears rfl (rasterAnswer_answered _ _ _ _ _) rfl
  | outmode => exact answer_of_either hears rfl (outmodeAnswer_answered _ _) rfl
  | silence => exact answer_of_either hears rfl (silenceAnswer_answered _ _) rfl
  | subscribe => exact answer_of_addressed hears rfl (subscribeAnswer_answered _ _) rfl
  | release => exact answer_of_addressed hears rfl (releaseAnswer_answered _) rfl
  | winset => exact answer_of_addressed hears rfl (winsetAnswer_answered _ _) rfl
  | windrop => exact answer_of_addressed hears rfl (windropAnswer_answered _ _) rfl
  | winmove => exact answer_of_addressed hears rfl (winmoveAnswer_answered _ _ _) rfl
  | winread => exact answer_of_addressed hears rfl (winreadAnswer_answered _ _ _) rfl
  | discard => exact answer_of_addressed hears rfl (discardAnswer_answered _) rfl
  | commit => exact answer_of_either hears rfl (commitAnswer_answered _) rfl
  | presave => exact answer_of_addressed hears rfl (presaveAnswer_answered _ _) rfl
  | take => exact answer_of_addressed hears rfl (takeAnswer_answered _ _ _ _ _ _) rfl
  | freezeNow => exact answer_of_addressed hears rfl (freezeNowAnswer_answered _ _ _) rfl
  | freezeAt => exact answer_of_addressed hears rfl (freezeAtAnswer_answered _ _ _) rfl
  | thaw => exact answer_of_addressed hears rfl (thawAnswer_answered _ _) rfl
  | rotset => exact answer_of_either hears rfl (rotsetAnswer_answered _ _ _ _ _ _) rfl
  | cueset => exact answer_of_either hears rfl (cuesetAnswer_answered _ _) rfl
  | cuedrop => exact answer_of_either hears rfl (cuedropAnswer_answered _) rfl
  | genlock => exact answer_of_either hears rfl (genlockAnswer_answered _) rfl
  | survey => exact answer_of_addressed hears rfl (surveyAnswer_answered _) rfl
  | surveyread => exact answer_of_addressed hears rfl (surveyreadAnswer_answered _) rfl
  | restart => exact ⟨_, onRequest_sent hears, .inl ⟨rfl, rfl⟩⟩
  | unknownRequest =>
    exact answer_of_addressed hears rfl (fun _ => .refused (rc := .unknown) nofun) (exec_unknownRequest _ _ _)
  | _ =>
    -- Of the commands left, RECALL alone is a request; Mathlib keeps its name from standing as a case of its own.
    exact answer_of_unit hears rfl (recallAnswer_answered _ _) rfl

/-! ### Replies -/

/-- The reply that FWD sends is the answer's. -/
theorem sent_reply {r : Reply} (h : (a.sent q code).fwd = ⟨.reply r, false⟩) : r = a.reply q code := by
  cases h
  rfl

/-- Among the answers of the units, a refusal leaves the state, and its result is empty but for NOTLIVE's. -/
theorem Answered.refusal (h : Answered s.goodCell a) (refused : isRefusal a.code = true) :
    a.sent q code = replied q code a.code (if a.code = .notLive then [genlockNumber s.rgu.genlock] else []) s := by
  cases h with
  | refused empty =>
    rw [refuse_code, if_neg empty]
    exact sent_eq_replied s _ []
  | notLive =>
    rw [if_pos rfl, ← genlockNumber_eq]
    exact sent_eq_replied s _ _
  | carried effect => exact absurd (effect.symm.trans refused) (by decide)

/-- Settles O4: a refused answer is a refusal or NOTLIVE's, and RESTART is answered DONE. -/
theorem refusalsChangeNothing : Obligations.RefusalsChangeNothing := by
  intro c q code s t r request hears run reply refused
  obtain ⟨a, answer, kind⟩ := exec_answer request hears
  cases run.symm.trans answer
  cases sent_reply reply
  obtain ⟨-, rfl⟩ | ⟨-, answered⟩ := kind
  · exact absurd refused Bool.false_ne_true
  · exact answered.refusal refused

/-- The result of a request's answer fits the result field (R177). -/
theorem AnswerOf.result_fits (h : AnswerOf c s a) : a.result.length ≤ 40 := by
  obtain ⟨-, rfl⟩ | ⟨-, answered⟩ := h
  · exact Nat.le_of_ble_eq_true rfl
  · exact answered.result_fits

/-- RESTART's indicator is read before its effects, every other after them (R165). -/
theorem AnswerOf.attention (h : AnswerOf c s a) : (a.reply q code).attention
    = decide ((if isRestart c = true then s.conditions else a.state.conditions) ≠ 0#12) := by
  obtain ⟨restart, rfl⟩ | ⟨other, answered⟩ := h
  · rw [if_pos restart]
    exact attention_eq s
  · rw [if_neg (ne_true_of_eq_false other), Answer.reply, answered.attention_none]
    exact attention_eq a.state

/-- Settles O5: the reply is the answer's, padded. -/
theorem repliesNameTheirRequest : Obligations.RepliesNameTheirRequest := by
  intro c q code s request hears
  obtain ⟨a, answer, kind⟩ := exec_answer request hears
  exact ⟨_, a.reply q code, answer, rfl, hears.2.1, rfl, rfl, rfl, padTo_length kind.result_fits, kind.attention⟩

/-! ### IDENT, CLEAR and requests of unknown code -/

theorem identResult_of (address : s.address = some q.target) : identResult s = [3#8, 177#8, 1#8, q.target, 4#8, 8#8] := by
  rw [identResult, address]
  rfl

/-- Settles O6: IDENT reads the chain address, and changes nothing. -/
theorem identAnswers : Obligations.IdentAnswers := by
  intro q s
  rw [exec_ident]
  refine ⟨fun heard => onRequest_heard heard rfl, fun hears => ?_⟩
  rw [← identResult_of hears.2.1]
  exact onRequest_hears hears rfl

theorem readConditions_eq (mask : Half) : readConditions mask = mask.setWidth 12 :=
  (BitVec.setWidth_eq_extractLsb' (by decide)).symm

theorem clearAnswer_eq (mask : Half) (s : State) : clearAnswer mask s
    = ⟨{ s with conditions := s.conditions &&& ~~~(mask.setWidth 12) }, .done, halfBytes (s.conditions.setWidth 16), none⟩ := by
  rw [clearAnswer, clearedBy, readConditions_eq, conditionsHalf_eq]

/-- Settles O8, by what CLEAR answers. -/
theorem clearClearsTheNamedConditions : Obligations.ClearClearsTheNamedConditions := by
  intro q mask s
  exact ⟨fun hears => onEither_hears hears (clearAnswer_eq mask _), fun heard => onEither_heard heard (clearAnswer_eq mask _)⟩

/-- Settles O9: RQU refuses the request without a look at its parameters. -/
theorem unknownRequestsAreAnsweredUnknown : Obligations.UnknownRequestsAreAnsweredUnknown := by
  intro q code s _
  rw [exec_unknownRequest]
  exact ⟨fun hears => onRequest_refused hears rfl, fun heard => onRequest_heard heard rfl⟩

end Sys2Proof.Proofs
end

section
/-! PROOFS. Every command has a next state, and leaves the queue of commands as it is (§0.12): `exec` never faults or refuses, and the
queue is among what the units do not touch. The entries into HUNT, RESTART and POWER_ON change fields that are followed as one piece with
the queue; for these it is read off their definitions. -/

namespace Sys2Proof.Proofs

open Sys2Proof.Machine Sys2Proof.Claims Sys2Proof.Safety

variable {l : List Piece} {q : ReqHead} {code : Byte} {own : State → Answer} {s t u : State}

/-- What a command answers in state `s` is a next state, with the queue of commands of `s`. -/
def Completes (s : State) (r : Result) : Prop := ∃ t, r = .next t ∧ t.pending = s.pending

theorem Completes.next (h : t.pending = s.pending) : Completes s (.next t) := ⟨t, rfl, h⟩

/-- A command that does one thing or another. -/
theorem Completes.ite {c : Prop} [Decidable c] (h : t.pending = s.pending) (k : u.pending = s.pending) :
    Completes s (.next (if c then t else u)) := by
  split
  · exact .next h
  · exact .next k

/-- The queue of commands is followed as one piece with the reset cause and the count of free values. -/
theorem Touches.pending (h : Touches l s t) (rest : Piece.rest ∉ l := by decide) : t.pending = s.pending := by
  obtain ⟨-, -, pending⟩ := h .rest rest
  exact pending

/-! ### Cells and requests -/

theorem onCell_completes {act : State → State} (h : ∀ u, (act u).pending = u.pending) (s : State) : Completes s (onCell act s) :=
  .ite ((h _).trans (goodCell_touches s).pending) (noCell_touches s).pending

theorem onForwarded_completes {act : State → State} (h : ∀ u, (act u).pending = u.pending) (s : State) :
    Completes s (onForwarded act s) :=
  onCell_completes (fun u => (send_touches _ _).pending.trans (h u)) s

theorem onRequest_completes {all : State → State} (ho : ∀ u, (own u).state.pending = u.pending)
    (ha : ∀ u, (all u).pending = u.pending) (s : State) : Completes s (onRequest q code own all s) := by
  refine onCell_completes (fun u => ?_) s
  split
  · exact (send_touches _ _).pending.trans (ha u)
  · split
    · exact (send_touches _ _).pending.trans (ho u)
    · exact (send_touches _ u).pending

theorem onAddressed_completes (ho : ∀ u, Touches l u (own u).state) (rest : Piece.rest ∉ l := by decide) :
    Completes s (onAddressed q code own s) := onRequest_completes (fun u => (ho u).pending rest) (fun _ => rfl) s

theorem onEither_completes (ho : ∀ u, Touches l u (own u).state) (rest : Piece.rest ∉ l := by decide) :
    Completes s (onEither q code own s) := onRequest_completes (fun u => (ho u).pending rest) (fun u => (ho u).pending rest) s

/-! ### Entries into HUNT, and RESTART -/

theorem enterHunt_pending (s : State) : (enterHunt s).pending = s.pending := rfl

theorem linkLost_pending (s : State) : (linkLost s).pending = s.pending := rfl

theorem failedHeader_pending (s : State) : (failedHeader s).pending = s.pending := by
  unfold failedHeader
  simp only
  split
  · rw [linkLost_pending]
    rfl
  · rfl

theorem loseSignal_pending (s : State) : (loseSignal s).pending = s.pending := by
  rw [loseSignal, State.raiseIf_pending]
  rfl

theorem endBreak_pending (s : State) : (endBreak s).pending = s.pending := by
  rw [endBreak, State.raiseIf_pending, State.send_pending, enterHunt_pending, State.setTrx_pending]

theorem restarted_pending (s : State) : (restarted s).pending = s.pending := rfl

/-! ### Every command -/

/-- Every command completes, by what its unit touches. -/
theorem exec_completes (c : Instr) (s : State) : Completes s (exec c s) := by
  cases c with
  | ident => exact onAddressed_completes (own := fun s => ⟨s, .done, identResult s, none⟩) (.refl [])
  | status q page => exact onAddressed_completes (statusAnswer_touches page)
  | clear q mask => exact onEither_completes (clearAnswer_touches mask)
  | raster q aw ah tw th bg => exact onEither_completes (rasterAnswer_touches aw ah tw th bg)
  | outmode q mask mode => exact onEither_completes (outmodeAnswer_touches mask mode)
  | silence q hold loss => exact onEither_completes (silenceAnswer_touches hold loss)
  | subscribe q store source => exact onAddressed_completes (subscribeAnswer_touches store source)
  | release q store => exact onAddressed_completes (releaseAnswer_touches store)
  | winset q output raw => exact onAddressed_completes (winsetAnswer_touches output raw)
  | windrop q output window => exact onAddressed_completes (windropAnswer_touches output window)
  | winmove q output window target => exact onAddressed_completes (winmoveAnswer_touches output window target)
  | winread q output window bank => exact onAddressed_completes (winreadAnswer_touches output window bank)
  | discard q output => exact onAddressed_completes (discardAnswer_touches output)
  | commit q mask => exact onEither_completes (commitAnswer_touches mask)
  | presave q output preset => exact onAddressed_completes (presaveAnswer_touches output preset)
  | take q output window kind value style duration =>
    exact onAddressed_completes (takeAnswer_touches output window kind value style duration)
  | freezeNow q output window kind => exact onAddressed_completes (freezeNowAnswer_touches output window kind)
  | freezeAt q output window tag => exact onAddressed_completes (freezeAtAnswer_touches output window tag)
  | thaw q output window => exact onAddressed_completes (thawAnswer_touches output window)
  | rotset q list count entries dwell style duration =>
    exact onEither_completes (rotsetAnswer_touches list count entries dwell style duration)
  | cueset q entry raw => exact onEither_completes (cuesetAnswer_touches entry raw)
  | cuedrop q entry => exact onEither_completes (cuedropAnswer_touches entry)
  | genlock q source => exact onEither_completes (genlockAnswer_touches source)
  | survey q frames => exact onAddressed_completes (surveyAnswer_touches frames)
  | surveyread q source => exact onAddressed_completes (surveyreadAnswer_touches source)
  | restart => exact onRequest_completes (own := restartAnswer) restarted_pending restarted_pending s
  | unknownRequest => exact onAddressed_completes (own := fun s => refuse s .unknown) (.refl [])
  | frameOpen source tag width height cells tick =>
    exact onForwarded_completes (fun u => (takeOpen_touches source tag width height cells tick u).pending) s
  | pic source tag sequence line first count pixels =>
    exact onForwarded_completes (fun u => (takePic_touches source tag sequence line first count pixels u).pending) s
  | frameClose source tag cells => exact onForwarded_completes (fun u => (takeClose_touches source tag cells u).pending) s
  | timebase weekday hour minute second frame =>
    exact onForwarded_completes (fun u => (takeTimebase_touches weekday hour minute second frame u).pending) s
  | enumCell next => exact onCell_completes (fun u => (takeEnum_touches next u).pending) s
  | forwardCell => exact onForwarded_completes (fun _ => rfl) s
  | headerError => exact .ite (failedHeader_pending s) (noCell_touches s).pending
  | huntHeaderCheck header check => exact .ite (huntCheck_touches header check s).pending rfl
  | syncReached => exact .ite (Touches.after (send_touches _ _) (goodInHunt_touches s)).pending rfl
  | linkHunt => exact .ite (failedHeader_pending s) rfl
  | lossOfSignal => exact .ite rfl (loseSignal_pending s)
  | signalReceived => exact .ite ((State.send_pending _ _).trans (enterHunt_pending s)) rfl
  | breakStart => exact .ite rfl (beginBreak_touches s).pending
  | breakEnd => exact .ite (endBreak_pending s) rfl
  | chainBreak => exact .next (chainBreakStep_touches s).pending
  | powerOn => exact .next rfl
  | powerOnFillEnd => exact .ite (frameStart_touches s).pending rfl
  | outputFrameEnd order => exact .ite (frameEnd_touches order s).pending rfl
  | outputFrameStart => exact .ite (frameStart_touches s).pending rfl
  | picWrite => exact .next (picWriteStep_touches s).pending
  | completion => exact .next (completionStep_touches s).pending
  | listAdvance r => exact .ite ((State.mark_pending _ _).trans (advanceList_touches r s).pending) rfl
  | transitionEnd => exact .ite rfl rfl
  | sourceStale i => exact .next (silenceMove_touches i _ _ s).pending
  | sourceLost i => exact .next (silenceMove_touches i _ _ s).pending
  | surveyDone => exact .ite rfl rfl
  | genlockTrack => exact .next (genlockMove_touches _ _ s).pending
  | genlockLocked => exact .next (genlockMove_touches _ _ s).pending
  | genlockUnlocked => exact .next (genlockMove_touches _ _ s).pending
  -- RECALL is left, whose name Mathlib has made a keyword.
  | _ => exact onRequest_completes (fun u => (recallAnswer_touches _ _ u).pending) (fun u => (recallAll_touches _ _ u).pending) s

/-- Settles O2, command by command. -/
theorem everyCommandCompletes : Obligations.EveryCommandCompletes := exec_completes

end Sys2Proof.Proofs
end
